-- ==== Sys2Proof/Word.lean ====
section
/-! DEFINITION. Word.lean: the plainest data of the block: bytes, channel addresses and 4-byte frames
(spec/00_scope.md R13, R15; spec/20_memory.md R52; spec/10_state.md R21). -/

namespace Sys2Proof

/-- A byte of a frame; bit 7 is the most significant (R13, R53). -/
abbrev Byte := BitVec 8

/-- A channel address as START's port carries it: `CH_FIELD_W` = 4 bits (R8, R25, R77). -/
abbrev Chan := BitVec 4

/-- A 32-bit word: the word view of a frame (R52) or a status register (R32). -/
abbrev Word := BitVec 32

/-- The 28-bit data of a response, `RAW_W` = 28 (R6, R55). -/
abbrev Raw := BitVec 28

/-- A frame: an ordered sequence of exactly 4 bytes, byte 0 first (R52, R70). -/
structure Frame where
  b0 : Byte
  b1 : Byte
  b2 : Byte
  b3 : Byte
deriving DecidableEq, Repr, Inhabited

/-- The frame 0x00000000, the reset value of `cmd` and `last_rx` (R39). -/
def Frame.zero : Frame := ⟨0#8, 0#8, 0#8, 0#8⟩

end Sys2Proof
end

