-- ==== Sys2Proof/Syntax.lean ====
section
/-! DEFINITION. Syntax.lean: the rows of spec/opcode_table.json as one inductive, the answers of the SPI agent,
and the offers through which the agents of R10 put their moves before the block. -/

namespace Sys2Proof

/-- What the SPI agent answers to one issued transfer: `Ok(rx)` with bytes of any number, or `IoError` (R50, R12). -/
inductive Answer where
  | ok (rx : List Byte)
  | ioError
deriving DecidableEq, Repr, Inhabited

/-- The instructions: one constructor for each row of spec/opcode_table.json.

The first five rows are frames (formats `CMD` and `RSP`), the last four are the steps of R150. A frame takes part in
a run only through the step that moves it, so a frame row stands for that step with that frame: `READ a` for the ISSUE
that sends `CMD(a)` (R153, R79), an `RSP_…` row for the COMPLETE that receives it (R75).
DEDUCED: notes/assumptions/1.md. -/
inductive Instr where
  /-- `READ`: the command frame of a channel address 0 to 7 (R71, R100, R102). -/
  | read (a : Chan)
  /-- `READ_ALIAS`: the command frame of a channel address 8 to 15 (R103). -/
  | readAlias (a : Chan)
  /-- `RSP_BUSY`: a response with `EOC` = 1; `x6` and `x4` are the ignored bits 6 and 4 of byte 0 (R73, R75, R76). -/
  | rspBusy (x6 x4 sign : Bool) (d : Raw)
  /-- `RSP_DATA_POS`: a response with `EOC` = 0 and `SIGN` = 1 (R75). -/
  | rspDataPos (x6 x4 : Bool) (d : Raw)
  /-- `RSP_DATA_NEG`: a response with `EOC` = 0 and `SIGN` = 0 (R75). -/
  | rspDataNeg (x6 x4 : Bool) (d : Raw)
  /-- `RESET`, the host's operation without operand (R230). -/
  | reset
  /-- `START(a)`, the host's operation with a 4-bit channel address (R151). -/
  | start (a : Chan)
  /-- `ISSUE`, the FSM's step (R153). -/
  | issue
  /-- `COMPLETE(ans)`, the SPI agent's step (R159). -/
  | complete (ans : Answer)
deriving DecidableEq, Repr

/-- One move as its agent puts it before the block, not decoded yet. The frames of formats `CMD` and `RSP` are bytes
on one of two lines, and the line tells the two formats apart (R50, R52): the bytes `A3 00 00 00` are `READ 3` going out
and an `RSP_BUSY` coming in. The four steps of format `STEP` have no bits in the spec and are offered by name.
DESIGN CHOICE: notes/assumptions/2.md. -/
inductive Offer where
  /-- Bytes of format `CMD` on the outbound line. -/
  | outbound (bytes : List Byte)
  /-- An answer of format `RSP` on the inbound line (R79: `RSP [..]` or `RSP IOERR`). -/
  | inbound (ans : Answer)
  /-- The host's `RESET`. -/
  | hostReset
  /-- The host's `START a`. -/
  | hostStart (a : Chan)
  /-- The FSM's `ISSUE`. -/
  | fsmIssue
  /-- The SPI agent's `COMPLETE ans`, named as a step. -/
  | spiComplete (ans : Answer)
deriving DecidableEq, Repr

/-- Why an offer decodes to no instruction. -/
inductive DecodeError where
  /-- An outbound byte sequence that has not 4 bytes: every transfer moves exactly 4 bytes out (R56). -/
  | commandLength
  /-- An outbound frame that no row of format `CMD` matches: a fixed bit of R71 has the other value, and the
  encoder writes every fixed bit as R71 gives it (R76). -/
  | notACommand
deriving DecidableEq, Repr

end Sys2Proof
end

