-- ==== Sys2Proof/Config.lean ====
section
/-! DEFINITION. Config.lean: the parameters of R7 that change what the block does, and the constants the spec leaves open.
The fixed literals of R6 stand in Sys2Proof/Machine/Constants.lean, under the same namespace Config. -/

namespace Sys2Proof

/-- `ADDR_POLICY` (R7, R104, 92 D4). -/
inductive AddrPolicy where
  | reject
  | truncate
deriving DecidableEq, Repr

/-- `MAX_TRANSFERS`: a number or `UNBOUNDED` (R7, 92 D5). The width is `CNT_W` = 32. -/
inductive MaxTransfers where
  | unbounded
  | bounded (n : BitVec 32)
deriving DecidableEq, Repr

/-- The parameters R7 says a model takes as arguments. They stand in the state as a field that no step writes, so that
every statement about every state is a statement about every value of them. DESIGN CHOICE: notes/assumptions/3.md. -/
structure Params where
  addrPolicy : AddrPolicy
  maxTransfers : MaxTransfers
deriving DecidableEq, Repr

/-- The legal values of R7: a numeric `MAX_TRANSFERS` is 1 to 2^`CNT_W` − 1. -/
def MaxTransfers.legal : MaxTransfers → Bool
  | .unbounded => true
  | .bounded n => n != 0#32

/-- FREE VALUE. What the SPI agent answers to the transfer of each draw when no answer has been offered: a draw with no
law (R12, R63 (d), R164). DESIGN CHOICE: notes/assumptions/4.md. -/
opaque Config.spiAnswer : Nat → Answer

/-- The six results that R201's table names. The codes 6 and 7 are never produced and have no constructor (R201, 93 I15). -/
inductive ResultCode where
  /-- 0: no result yet. -/
  | none
  | ok
  | timeout
  | deviceError
  | framingError
  | addressError
deriving DecidableEq, Repr, Inhabited

/-- FREE VALUE. Which of the six results stands for a pair of `st` and `err` codes that R201's table does not list; no
reachable state has such a pair (R160 (b)). DESIGN CHOICE: notes/assumptions/5.md. -/
opaque Config.unlistedResult : BitVec 3 → BitVec 2 → ResultCode

/-- `SPI_BUS`: OPEN, a setting of the SPI agent that the block never reads (R7, R64, 92 D26). -/
opaque Config.spiBus : Nat

/-- `SPI_CS`: OPEN, a setting of the SPI agent that the block never reads (R7, R64, 92 D26). -/
opaque Config.spiCs : Nat

/-- `SPI_MODE`: OPEN, a setting of the SPI agent that the block never reads (R54, 92 D25). -/
opaque Config.spiMode : Nat

/-- `SPI_BIT_ORDER`: OPEN, a setting of the SPI agent that the block never reads (R54, 92 D25). -/
opaque Config.spiBitOrder : Nat

end Sys2Proof
end

