-- ==== Sys2Proof/Machine/Constants.lean ====
section
/-! DEFINITION. Machine/Constants.lean: the numeric literals of the document as named constants, one definition each
(spec/00_scope.md R6; spec/93_implementation_defined.md I1). -/

namespace Sys2Proof

/-- `FRAME_LEN`: bytes in every frame (R6). -/
abbrev Config.frameLen : Nat := 4

/-- `CH_FIELD_W`: width of the channel field of command byte 0 (R6). -/
abbrev Config.chFieldW : Nat := 4

/-- `NUM_CH`: number of valid channel addresses (R6). -/
abbrev Config.numCh : Nat := 8

/-- `RAW_W`: width of `raw_data` (R6). -/
abbrev Config.rawW : Nat := 28

/-- `FULL_SCALE` = 0x0FFFFFFF (R6). -/
abbrev Config.fullScale : Nat := 0x0FFFFFFF

/-- Numerator of `GAIN` = 115/100 (R6). -/
abbrev Config.gainNum : Nat := 115

/-- Denominator of `GAIN` = 115/100 (R6). -/
abbrev Config.gainDen : Nat := 100

/-- `PCT`: the percent scale factor (R6). -/
abbrev Config.pct : Nat := 100

/-- Hundredths in one percent point: the unit of `norm_centi` (R126). -/
abbrev Config.centi : Nat := 100

/-- `CNT_W`: width of the transfer counter (R7). -/
abbrev Config.cntW : Nat := 32

/-- `SPI_MAX_HZ`: a setting of the SPI agent, never read by the block (R7, R64). -/
abbrev Config.spiMaxHz : Nat := 4000000

/-- The conversion-start flag of command byte 0, bit 7 (R71, R100). -/
abbrev Config.convStart : Byte := 0x80#8

/-- The single-ended input-select flag of command byte 0, bit 5 (R71, R100). -/
abbrev Config.singleEnded : Byte := 0x20#8

end Sys2Proof
end

