-- ==== Sys2Proof/Machine/Encoder.lean ====
section
/-! DEFINITION. Machine/Encoder.lean: the Command Encoder, ENCODE and ADMIT (spec/40_command_encoder.md R100 to R104).
Both are pure: neither takes the state (R101). -/

namespace Sys2Proof

/-- ENCODE: the command frame `CMD(a)` of a channel address (R100, R71). The channel field is not masked to 3 bits
(90 C1). -/
def commandFrame (a : Chan) : Frame :=
  ⟨Config.convStart ||| Config.singleEnded ||| a.setWidth 8, 0x00#8, 0x00#8, 0x00#8⟩

/-- ADMIT: whether START accepts a channel address (R104). -/
def admits (p : AddrPolicy) (a : Chan) : Bool :=
  match p with
  | .reject => a.toNat < Config.numCh
  | .truncate => true

end Sys2Proof
end

