-- ==== Sys2Proof/Machine/Bits.lean ====
section
/-! DEFINITION. Machine/Bits.lean: byte order and bit fields of frames (spec/20_memory.md R52, R53, R55;
spec/30_encoding.md R73, R74). -/

namespace Sys2Proof

/-- The word view `W(f)`: byte 0 is most significant (R52). -/
def Frame.word (f : Frame) : Word := f.b0 ++ f.b1 ++ f.b2 ++ f.b3

/-- The frame whose word view is `w` (R52). -/
def Frame.ofWord (w : Word) : Frame :=
  ⟨w.extractLsb' 24 8, w.extractLsb' 16 8, w.extractLsb' 8 8, w.extractLsb' 0 8⟩

/-- The frame as the byte sequence a transfer moves, byte 0 first (R50, R52). -/
def Frame.bytes (f : Frame) : List Byte := [f.b0, f.b1, f.b2, f.b3]

/-- `WELL_FORMED`: a byte sequence is a frame exactly when it has 4 bytes (R120). -/
def Frame.ofBytes : List Byte → Option Frame
  | [b0, b1, b2, b3] => some ⟨b0, b1, b2, b3⟩
  | _ => none

/-- Field `EOC`: bit 7 of byte 0 (R73, R121). -/
def Frame.eocBit (f : Frame) : Bool := f.b0.getLsbD 7

/-- The ignored bit 6 of byte 0 (R73, R76). -/
def Frame.bit6 (f : Frame) : Bool := f.b0.getLsbD 6

/-- Field `SIGN`: bit 5 of byte 0 (R73, R122). -/
def Frame.signBit (f : Frame) : Bool := f.b0.getLsbD 5

/-- The ignored bit 4 of byte 0 (R73, R76). -/
def Frame.bit4 (f : Frame) : Bool := f.b0.getLsbD 4

/-- Field `D[27:0]`: byte 0's low nibble, then bytes 1 to 3 (R55, R73, R123). -/
def Frame.dField (f : Frame) : Raw := f.b0.extractLsb' 0 4 ++ f.b1 ++ f.b2 ++ f.b3

/-- The response frame with the given fields (R73). -/
def responseFrame (eoc x6 sign x4 : Bool) (d : Raw) : Frame where
  b0 := BitVec.ofBool eoc ++ BitVec.ofBool x6 ++ BitVec.ofBool sign ++ BitVec.ofBool x4 ++ d.extractLsb' 24 4
  b1 := d.extractLsb' 16 8
  b2 := d.extractLsb' 8 8
  b3 := d.extractLsb' 0 8

end Sys2Proof
end

