-- ==== Sys2Proof/Machine/Flags.lean ====
section
/-! DEFINITION. Machine/Flags.lean: the two flags a response carries (spec/41_response_decoder.md R121, R122;
spec/10_state.md R30). -/

namespace Sys2Proof.Machine

/-- `eoc`: bit 7 of byte 0; 1 means that the conversion is NOT complete (R121, R129; 90 C2). -/
def eocFlag (rx : Frame) : Bool := rx.eocBit

/-- `sign`: bit 5 of byte 0, decoded whatever `eoc` is (R122). -/
def signFlag (rx : Frame) : Bool := rx.signBit

end Sys2Proof.Machine
end

