-- ==== Sys2Proof/Machine/Operands.lean ====
section
/-! DEFINITION. Machine/Operands.lean: the Response Decoder's numbers (spec/41_response_decoder.md R123 to R127).
Nothing here reads the state (R127). -/

namespace Sys2Proof.Machine

/-- `pre`: the 28-bit concatenation of byte 0's low nibble and bytes 1 to 3 (R123). -/
def preOf (rx : Frame) : Raw := rx.dField

/-- `raw_data`: `pre`, inverted within 28 bits when `sign` is 0 (R124). -/
def rawOf (sign : Bool) (pre : Raw) : Raw :=
  if sign then pre else pre ^^^ BitVec.ofNat 28 Config.fullScale

/-- `normalized` as the exact rational of R125: `(raw / FULL_SCALE) * GAIN * PCT`. It is a magnitude: `sign` does not
enter it (R128). -/
def normalized (raw : Raw) : Rat :=
  (raw.toNat : Rat) / (Config.fullScale : Rat) * ((Config.gainNum : Rat) / (Config.gainDen : Rat)) * (Config.pct : Rat)

/-- `norm_centi` at full scale: `GAIN * PCT` in hundredths, 11500 (R126). -/
def centiFullScale : Nat := Config.gainNum * Config.pct * Config.centi / Config.gainDen

/-- `norm_centi`: `normalized` in hundredths of a percent, rounded to nearest, in 14 bits (R126). -/
def normCenti (raw : Raw) : BitVec 14 :=
  BitVec.ofNat 14 ((2 * centiFullScale * raw.toNat + Config.fullScale) / (2 * Config.fullScale))

/-- A Decoded Sample with the fixed-point form of `normalized` (R127). -/
structure Sample where
  eoc : Bool
  sign : Bool
  raw : Raw
  norm : BitVec 14
deriving DecidableEq, Repr

/-- DECODE (R127): every field is computed, also when `eoc` is 1. -/
def decodeSample (rx : Frame) : Sample where
  eoc := eocFlag rx
  sign := signFlag rx
  raw := rawOf (signFlag rx) (preOf rx)
  norm := normCenti (rawOf (signFlag rx) (preOf rx))

end Sys2Proof.Machine
end

