-- ==== Sys2Proof/Machine/State.lean ====
section
/-! DEFINITION. Machine/State.lean: the state of the block and of its surroundings as plain data
(spec/10_state.md R21 to R29, R39, R42), and the reasons a step can stop. -/

namespace Sys2Proof.Machine

/-- `FsmState` (R22). The codes 5 to 7 are written by no step and have no constructor. -/
inductive FsmState where
  /-- 0: no invocation since reset. -/
  | idle
  /-- 1: an invocation is in progress. -/
  | polling
  /-- 2: terminal, the sample is the result. -/
  | converged
  /-- 3: terminal, the transfer bound was reached with every answer busy. -/
  | timedOut
  /-- 4: terminal, an error ended the invocation. -/
  | failed
deriving DecidableEq, Repr

/-- `ErrKind` (R23). -/
inductive ErrKind where
  /-- 0: no error. -/
  | none
  /-- 1: the SPI transfer failed. -/
  | deviceIo
  /-- 2: the response was not exactly 4 bytes. -/
  | framing
  /-- 3: the channel address was out of range under `ADDR_POLICY = Reject`. -/
  | address
deriving DecidableEq, Repr

/-- The machine. The first twelve fields are the block state of R21, under the spec's names; the last four hold what the
spec gives the block's surroundings (INVENTORY.md, State). -/
structure State where
  /-- FSM state (R22). -/
  st : FsmState
  /-- Error kind when `st = FAILED` (R23). -/
  err : ErrKind
  /-- A transfer has been issued and not yet completed (R24). -/
  pending : Bool
  /-- Latched channel address (R25). -/
  chan : Chan
  /-- Latched command frame (R26). -/
  cmd : Frame
  /-- ISSUE steps of the current invocation, `CNT_W` = 32 bits, saturating (R27). -/
  xfers : BitVec 32
  /-- At least one response was decoded in this invocation (R28). -/
  smpHave : Bool
  /-- `end_of_conversion` of the last decoded sample (R28, R30). -/
  smpEoc : Bool
  /-- `sign` of the last decoded sample (R28, R30). -/
  smpSign : Bool
  /-- `raw_data` of the last decoded sample, after inversion (R28). -/
  smpRaw : Raw
  /-- `norm_centi` of the last decoded sample, 14 bits (R21, R28, R35). -/
  smpNorm : BitVec 14
  /-- The last well-formed response of this invocation (R29). -/
  lastRx : Frame
  /-- MODEL's own: the outbound frame of the transfer the SPI agent holds and has not answered (R50 `SpiTransfer(tx)`,
  R40). notes/assumptions/6.md. -/
  spiTx : Option Frame
  /-- The parameters of R7; no step writes them. notes/assumptions/3.md. -/
  cfg : Params
  /-- MODEL's own: the moves the agents have put before the block, next first (R10, R11, R150). notes/assumptions/7.md. -/
  moves : List Offer
  /-- MODEL's own: how many free answers of the SPI agent have been drawn. notes/assumptions/4.md. -/
  draws : Nat
deriving DecidableEq, Repr

/-- Why the machine as a whole stops. The block's own errors (R200) are states and never a fault. -/
inductive Fault where
  /-- Raised by `step` alone, when no agent has offered a move and no step of the FSM or of the SPI agent is enabled: the
  block waits for the host's START or RESET (R162, R232). Safe: the hardware only waits there. -/
  | awaitsHost
deriving DecidableEq, Repr

/-- Why a move is not made. -/
inductive Refusal where
  /-- An instruction without a meaning in this model (the mnemonic of its row). No arm of `exec` answers it. Safe. -/
  | notModelled (mnemonic : String)
  /-- Raised by `step`: the offered bytes are no frame of format `CMD` (R71, R76; 93 I3). Safe: the block never sends them. -/
  | undecodable (e : DecodeError)
  /-- Raised by ISSUE, READ and READ_ALIAS outside `st = POLLING` with `pending = 0`: the step is not enabled, and a model
  must not take it (R153, R165). Safe. -/
  | issueNotEnabled
  /-- Raised by COMPLETE and the RSP rows while `pending = 0`: the SPI agent has no such move (R63 (b), R165). Safe. -/
  | completeNotEnabled
  /-- Raised by READ and READ_ALIAS when the latched command frame is another one: every ISSUE sends `cmd` (R61, R153), so
  the block does not send this frame here. Safe. -/
  | frameNotLatched
deriving DecidableEq, Repr

/-- The machine right after reset: every block field at the value of R39. `ADDR_POLICY` is the value R7 gives this
hardware; `MAX_TRANSFERS` is OPEN there and stands at `UNBOUNDED` here (DESIGN CHOICE: notes/assumptions/3.md). No move is
offered yet (notes/assumptions/7.md). -/
def State.reset : State where
  st := .idle
  err := .none
  pending := false
  chan := 0#4
  cmd := Frame.zero
  xfers := 0#32
  smpHave := false
  smpEoc := false
  smpSign := false
  smpRaw := 0#28
  smpNorm := 0#14
  lastRx := Frame.zero
  spiTx := none
  cfg := ⟨.reject, .unbounded⟩
  moves := []
  draws := 0

end Sys2Proof.Machine
end

