-- ==== Sys2Proof/Machine/Ops.lean ====
section
/-! DEFINITION. Machine/Ops.lean: the named operations on the state that the steps of R150 share. The block has no memory
(spec/20_memory.md R51) and no register file (spec/10_state.md R20); its exceptions are entered by `raiseFailed`, and nothing
returns from one but START and RESET (spec/60_exceptions.md R204, R206). -/

namespace Sys2Proof.Machine

/-- TAKING AN EXCEPTION: `raise Failed(kind)` writes `st`, `err` and `pending` and nothing else of the block (R204). The SPI
agent then holds no transfer. -/
def raiseFailed (k : ErrKind) (s : State) : State :=
  { s with st := .failed, err := k, pending := false, spiTx := none }

/-- START and RESET clear the five sample fields and `last_rx` (R28, R29). -/
def clearSample (s : State) : State :=
  { s with smpHave := false, smpEoc := false, smpSign := false, smpRaw := 0#28, smpNorm := 0#14, lastRx := Frame.zero }

/-- `BOUND_REACHED` (R157). -/
def boundReached (m : MaxTransfers) (x : BitVec 32) : Bool :=
  match m with
  | .unbounded => false
  | .bounded n => n.toNat ≤ x.toNat

/-- One more transfer, saturating at 2^`CNT_W` − 1 (R27, R153). -/
def countTransfer (x : BitVec 32) : BitVec 32 :=
  BitVec.ofNat 32 (min (x.toNat + 1) (2 ^ Config.cntW - 1))

/-- `SpiTransfer(tx)`: the block hands the frame to the SPI agent (R14, R50). -/
def spiTransfer (tx : Frame) (s : State) : State := { s with spiTx := some tx }

/-- RESET: every block field to its value of R39 and the transfer in flight abandoned (R230, R231). The parameters and what
the agents have offered are no block state (R41) and stay. -/
def resetBlock (s : State) : State :=
  { State.reset with cfg := s.cfg, moves := s.moves, draws := s.draws }

/-- What START writes before it looks at the address (R151); the transfer of an earlier invocation, if one were in flight,
is abandoned with `pending`. -/
def clearInvocation (a : Chan) (s : State) : State :=
  { clearSample s with pending := false, spiTx := none, xfers := 0#32, chan := a }

/-- START(a) (R151, R152): ignored while POLLING; else a new invocation, or `ADDRESS` when ADMIT refuses the address. -/
def startInvocation (a : Chan) (s : State) : State :=
  match s.st with
  | .polling => s
  | _ =>
    if admits s.cfg.addrPolicy a then
      { clearInvocation a s with cmd := commandFrame a, err := .none, st := .polling }
    else raiseFailed .address { clearInvocation a s with cmd := Frame.zero }

/-- ISSUE is enabled exactly in POLLING with no transfer pending (R150, R153). -/
def issueEnabled (s : State) : Bool := s.st == .polling && !s.pending

/-- The effect of ISSUE (R153). -/
def issueEffect (s : State) : State :=
  { spiTransfer s.cmd s with pending := true, xfers := countTransfer s.xfers }

/-- ISSUE (R153): a step only where it is enabled (R165). -/
def issueStep (s : State) : Host.Outcome State Fault Refusal :=
  if issueEnabled s then .next (issueEffect s) else .refused .issueNotEnabled

/-- ISSUE seen as the sending of one frame: the step sends the latched `cmd`, so it sends `tx` exactly when `tx` is latched
(R61, R153). -/
def sendFrame (tx : Frame) (s : State) : Host.Outcome State Fault Refusal :=
  if s.cmd = tx then issueStep s else .refused .frameNotLatched

/-- A well-formed response is recorded: the five sample fields, `last_rx`, and the transfer is answered (R28, R29, R159). -/
def recordSample (rx : Frame) (s : State) : State :=
  { s with
    smpHave := true
    smpEoc := (decodeSample rx).eoc
    smpSign := (decodeSample rx).sign
    smpRaw := (decodeSample rx).raw
    smpNorm := (decodeSample rx).norm
    lastRx := rx
    pending := false
    spiTx := none }

/-- Where a well-formed response leaves the FSM: convergence is tested before the bound (R156 to R159, R203). -/
def stateAfter (eoc : Bool) (s : State) : FsmState :=
  if eoc then (if boundReached s.cfg.maxTransfers s.xfers then .timedOut else s.st) else .converged

/-- The FSM state written, and nothing else. -/
def enterState (st' : FsmState) (s : State) : State := { s with st := st' }

/-- COMPLETE's effect, its tests in the order of R159: device error, length, end of conversion, bound. -/
def completeEffect (ans : Answer) (s : State) : State :=
  match ans with
  | .ioError => raiseFailed .deviceIo s
  | .ok bytes =>
    match Frame.ofBytes bytes with
    | none => raiseFailed .framing s
    | some rx => enterState (stateAfter (decodeSample rx).eoc s) (recordSample rx s)

/-- COMPLETE (R159): a step only while a transfer is pending (R63 (b), R165). -/
def completeStep (ans : Answer) (s : State) : Host.Outcome State Fault Refusal :=
  if s.pending then .next (completeEffect ans s) else .refused .completeNotEnabled

end Sys2Proof.Machine
end

