-- ==== Sys2Proof/Machine/Command.lean ====
section
/-! DEFINITION. Machine/Command.lean: the family of format `CMD`: the sending of a command frame
(spec/30_encoding.md R71, R79; spec/42_polling_fsm.md R153). -/

namespace Sys2Proof.Machine

/-- `READ a`: the block sends the command frame of a channel address 0 to 7 (R100, R102). -/
def execRead (a : Chan) (s : State) : Host.Outcome State Fault Refusal :=
  sendFrame (commandFrame a) s

/-- `READ_ALIAS a`: the block sends the command frame of a channel address 8 to 15 (R103). What the device samples for it is
the SPI agent's answer, without law (R12, 91 N7). -/
def execReadAlias (a : Chan) (s : State) : Host.Outcome State Fault Refusal :=
  sendFrame (commandFrame a) s

end Sys2Proof.Machine
end

