-- ==== Sys2Proof/Machine/Response.lean ====
section
/-! DEFINITION. Machine/Response.lean: the family of format `RSP`: the receipt of a 4-byte response, which is COMPLETE with
that answer (spec/30_encoding.md R73, R75; spec/42_polling_fsm.md R156 to R159). -/

namespace Sys2Proof.Machine

/-- `RSP_BUSY`: `EOC` = 1; the sample is recorded and the FSM retries or times out (R157, R158). -/
def execRspBusy (x6 x4 sign : Bool) (d : Raw) (s : State) : Host.Outcome State Fault Refusal :=
  completeStep (.ok (responseFrame true x6 sign x4 d).bytes) s

/-- `RSP_DATA_POS`: `EOC` = 0, `SIGN` = 1; converges with `raw = D` (R156). -/
def execRspDataPos (x6 x4 : Bool) (d : Raw) (s : State) : Host.Outcome State Fault Refusal :=
  completeStep (.ok (responseFrame false x6 true x4 d).bytes) s

/-- `RSP_DATA_NEG`: `EOC` = 0, `SIGN` = 0; converges with `raw = D XOR 0x0FFFFFFF` (R156). -/
def execRspDataNeg (x6 x4 : Bool) (d : Raw) (s : State) : Host.Outcome State Fault Refusal :=
  completeStep (.ok (responseFrame false x6 false x4 d).bytes) s

end Sys2Proof.Machine
end

