-- ==== Sys2Proof/Machine/Steps.lean ====
section
/-! DEFINITION. Machine/Steps.lean: the family of format `STEP`: the four steps of the block's run
(spec/42_polling_fsm.md R150). -/

namespace Sys2Proof.Machine

/-- `RESET`: always enabled (R230). -/
def execReset (s : State) : Host.Outcome State Fault Refusal := .next (resetBlock s)

/-- `START(a)`: always enabled; changes nothing while POLLING (R151, R152). -/
def execStart (a : Chan) (s : State) : Host.Outcome State Fault Refusal := .next (startInvocation a s)

/-- `ISSUE` (R153). -/
def execIssue (s : State) : Host.Outcome State Fault Refusal := issueStep s

/-- `COMPLETE(ans)` (R154 to R159). -/
def execComplete (ans : Answer) (s : State) : Host.Outcome State Fault Refusal := completeStep ans s

end Sys2Proof.Machine
end

