-- ==== Sys2Proof/Machine/Dispatch.lean ====
section
/-! DEFINITION. Machine/Dispatch.lean: one arm for each constructor of Instr. -/

namespace Sys2Proof.Machine

def exec (i : Instr) (s : State) : Host.Outcome State Fault Refusal :=
  match i with
  | .read a => Sys2Proof.Machine.execRead a s
  | .readAlias a => Sys2Proof.Machine.execReadAlias a s
  | .rspBusy x6 x4 sign d => Sys2Proof.Machine.execRspBusy x6 x4 sign d s
  | .rspDataPos x6 x4 d => Sys2Proof.Machine.execRspDataPos x6 x4 d s
  | .rspDataNeg x6 x4 d => Sys2Proof.Machine.execRspDataNeg x6 x4 d s
  | .reset => Sys2Proof.Machine.execReset s
  | .start a => Sys2Proof.Machine.execStart a s
  | .issue => Sys2Proof.Machine.execIssue s
  | .complete ans => Sys2Proof.Machine.execComplete ans s

end Sys2Proof.Machine
end

