-- ==== Sys2Proof/WellFormed.lean ====
section
/-! DEFINITION. WellFormed.lean: which instructions the encodings allow. -/

namespace Sys2Proof

/-- An instruction is well formed when its operands fit its row: `READ` has the channel addresses 0 to 7 (bit 27 of the
word is 0) and `READ_ALIAS` 8 to 15 (bit 27 is 1) (R72, R100, R103). Every other operand is a full bit field. -/
def Instr.wellFormed : Instr → Bool
  | .read a => a.toNat < 8
  | .readAlias a => 8 ≤ a.toNat
  | .rspBusy _ _ _ _ => true
  | .rspDataPos _ _ _ => true
  | .rspDataNeg _ _ _ => true
  | .reset => true
  | .start _ => true
  | .issue => true
  | .complete _ => true

end Sys2Proof
end

