-- ==== Sys2Proof/Decode.lean ====
section
/-! DEFINITION. Decode.lean: from offers to instructions and back (spec/30_encoding.md; spec/opcode_table.json).
Decoding is total: every offer gives an instruction or a named error. -/

namespace Sys2Proof

/-- The `match` and `mask` of a row of spec/opcode_table.json, over the word view of a frame (R52). -/
structure Pattern where
  value : Word
  mask : Word
deriving DecidableEq, Repr

/-- A word matches a row when the masked word is the row's value. -/
def Pattern.hits (p : Pattern) (w : Word) : Bool := w &&& p.mask == p.value

/-- Row `READ` (R72, R100). -/
def rowRead : Pattern := ⟨0xA0000000#32, 0xF8FFFFFF#32⟩

/-- Row `READ_ALIAS` (R72, R103). -/
def rowReadAlias : Pattern := ⟨0xA8000000#32, 0xF8FFFFFF#32⟩

/-- Row `RSP_BUSY` (R75). -/
def rowRspBusy : Pattern := ⟨0x80000000#32, 0x80000000#32⟩

/-- Row `RSP_DATA_POS` (R75). -/
def rowRspDataPos : Pattern := ⟨0x20000000#32, 0xA0000000#32⟩

/-- Row `RSP_DATA_NEG` (R75). -/
def rowRspDataNeg : Pattern := ⟨0x00000000#32, 0xA0000000#32⟩

/-- The instruction of an outbound frame: format `CMD`, or the error that no row of it matches (R71, R72). -/
def decodeCommand (f : Frame) : Except DecodeError Instr :=
  if rowRead.hits f.word then .ok (.read (f.b0.extractLsb' 0 4))
  else if rowReadAlias.hits f.word then .ok (.readAlias (f.b0.extractLsb' 0 4))
  else .error .notACommand

/-- The instruction of an inbound frame: format `RSP`, total on 4-byte frames (R75). The row `RSP_DATA_NEG` takes the
words the other two leave, which are those its own pattern matches. -/
def decodeResponse (f : Frame) : Instr :=
  if rowRspBusy.hits f.word then .rspBusy f.bit6 f.bit4 f.signBit f.dField
  else if rowRspDataPos.hits f.word then .rspDataPos f.bit6 f.bit4 f.dField
  else .rspDataNeg f.bit6 f.bit4 f.dField

/-- The decoder. An inbound answer that is not a 4-byte frame belongs to no `RSP_…` row: it is the COMPLETE step with
that answer (R75, R154, R155). -/
def decode : Offer → Except DecodeError Instr
  | .outbound bytes =>
    match Frame.ofBytes bytes with
    | some f => decodeCommand f
    | none => .error .commandLength
  | .inbound .ioError => .ok (.complete .ioError)
  | .inbound (.ok bytes) =>
    match Frame.ofBytes bytes with
    | some f => .ok (decodeResponse f)
    | none => .ok (.complete (.ok bytes))
  | .hostReset => .ok .reset
  | .hostStart a => .ok (.start a)
  | .fsmIssue => .ok .issue
  | .spiComplete ans => .ok (.complete ans)

/-- The encoder: the offer that stands for an instruction, its bytes by R71 and R73. -/
def encode : Instr → Offer
  | .read a => .outbound (commandFrame a).bytes
  | .readAlias a => .outbound (commandFrame a).bytes
  | .rspBusy x6 x4 sign d => .inbound (.ok (responseFrame true x6 sign x4 d).bytes)
  | .rspDataPos x6 x4 d => .inbound (.ok (responseFrame false x6 true x4 d).bytes)
  | .rspDataNeg x6 x4 d => .inbound (.ok (responseFrame false x6 false x4 d).bytes)
  | .reset => .hostReset
  | .start a => .hostStart a
  | .issue => .fsmIssue
  | .complete ans => .spiComplete ans

/-- The offer whose frame has the bits `w`, numbered as spec/opcode_table.json numbers them: one 32-bit word, the word
view of the frame. The table's `CMD` rows are tried before its `RSP` rows, since the rows overlap and a word alone does not
say its line (DESIGN CHOICE: notes/assumptions/2.md). A word of 1 to 31 bits stands for the 4-byte frame whose bits above
them are 0; the spec gives frames of 32 bits alone (R56), and a frame of any other length never comes of a table word
(DESIGN CHOICE: notes/assumptions/17.md). No bits, more than 32 bits, and a number that does not fit its bits give none. -/
def tableWordOffer (nbits w : Nat) : Option Offer :=
  if nbits == 0 || 32 < nbits || 2 ^ nbits ≤ w then none
  else
    let f := Frame.ofWord (BitVec.ofNat 32 w)
    match decodeCommand f with
    | .ok _ => some (.outbound f.bytes)
    | .error _ => some (.inbound (.ok f.bytes))

/-- The instruction the decoder reads from a word of spec/opcode_table.json. -/
def decodeTableWord (nbits w : Nat) : Option Instr :=
  match tableWordOffer nbits w with
  | none => none
  | some o =>
    match decode o with
    | .ok i => some i
    | .error _ => none

end Sys2Proof
end

