-- ==== Sys2Proof/Machine/Fetch.lean ====
section
/-! DEFINITION. Machine/Fetch.lean: where the next move comes from (spec/42_polling_fsm.md R150, R164; spec/00_scope.md R10
to R12). The block fetches no instructions (spec/20_memory.md R61): what a step runs is the next move an agent makes. -/

namespace Sys2Proof.Machine

/-- The next move and the state without it. An offered move comes first, so any interleaving of the agents can be offered
(R150). When none is offered, the agents that owe a move make it (R164): the FSM its ISSUE where it is enabled, else the SPI
agent a COMPLETE with a free answer where a transfer is pending (R12, R63 (d)). The host owes no move. -/
def fetch (s : State) : Option (Except DecodeError Instr × State) :=
  match s.moves with
  | o :: rest => some (decode o, { s with moves := rest })
  | [] =>
    if issueEnabled s then some (.ok .issue, s)
    else if s.pending then some (.ok (.complete (Config.spiAnswer s.draws)), { s with draws := s.draws + 1 })
    else none

/-- An invocation begun on channel `a` by START, under `ADDR_POLICY = Truncate` where the address needs it (R103, R151).
Used only to place an instruction before a first step. -/
def beginOn (a : Chan) (s : State) : State :=
  startInvocation a
    { s with st := .idle, cfg := { s.cfg with addrPolicy := if admits s.cfg.addrPolicy a then s.cfg.addrPolicy else .truncate } }

/-- The state in which the frame of an offer can be moved: a command frame goes out only when it is latched and no transfer
is pending; a response comes in only while one is pending. A state that is so already is kept; else START, and for a
response ISSUE, are taken first. notes/assumptions/8.md. -/
def prepareFor (o : Offer) (s : State) : State :=
  match o with
  | .outbound bytes =>
    match Frame.ofBytes bytes with
    | none => s
    | some f => if issueEnabled s && s.cmd == f then s else beginOn (f.b0.extractLsb' 0 4) s
  | .inbound _ => if s.pending then s else issueEffect (beginOn s.chan s)
  | _ => s

/-- A move put before all others. -/
def offerFirst (o : Offer) (s : State) : State := { s with moves := o :: s.moves }

end Sys2Proof.Machine
end

