-- ==== Sys2Proof/Machine/Step.lean ====
section
/-! DEFINITION. Machine/Step.lean: one step of the run (spec/42_polling_fsm.md R150), and the placing of one instruction
before it. -/

namespace Sys2Proof.Machine

/-- One step: the next move is fetched, decoded and made. -/
def step (s : State) : Host.Outcome State Fault Refusal :=
  match fetch s with
  | none => .fault .awaitsHost
  | some (.ok i, s') => exec i s'
  | some (.error e, _) => .refused (.undecodable e)

/-- `s` with the frame whose table word is `w` as the very next move, in a state in which its line carries it. A word
of 1 to 31 bits is a frame with zeros above them (DESIGN CHOICE: notes/assumptions/17.md). What `tableWordOffer` gives no
frame (no bits, more than 32, a number that does not fit) is offered as an outbound sequence of no bytes, which the decoder
refuses. -/
def State.withFetchWord (s : State) (nbits w : Nat) : State :=
  match tableWordOffer nbits w with
  | none => offerFirst (.outbound []) s
  | some o => offerFirst o (prepareFor o s)

end Sys2Proof.Machine
end

