-- ==== Sys2Proof/Machine/Status.lean ====
section
/-! DEFINITION. Machine/Status.lean: the six read-only status registers the host reads between steps
(spec/10_state.md R22, R23, R32 to R38; spec/60_exceptions.md R201). A read is a function of the state: it has no side
effect and is no step (R150, R166). There is no write. -/

namespace Sys2Proof.Machine

/-- The 3-bit code of `st` (R22). -/
def FsmState.code : FsmState → BitVec 3
  | .idle => 0#3
  | .polling => 1#3
  | .converged => 2#3
  | .timedOut => 3#3
  | .failed => 4#3

/-- The 2-bit code of `err` (R23). -/
def ErrKind.code : ErrKind → BitVec 2
  | .none => 0#2
  | .deviceIo => 1#2
  | .framing => 2#2
  | .address => 3#2

/-- The row of R201's table for a pair of `st` and `err`. A pair the table does not list, which no reachable state has,
gives a free one of the six results: DESIGN CHOICE, notes/assumptions/5.md. -/
def resultOf (st : FsmState) (err : ErrKind) : ResultCode :=
  match st, err with
  | .idle, .none => .none
  | .polling, .none => .none
  | .converged, .none => .ok
  | .timedOut, .none => .timeout
  | .failed, .deviceIo => .deviceError
  | .failed, .framing => .framingError
  | .failed, .address => .addressError
  | st, err => Config.unlistedResult st.code err.code

/-- The 3-bit code of the table's rows (R201). -/
def codeOfResult : ResultCode → BitVec 3
  | .none => 0#3
  | .ok => 1#3
  | .timeout => 2#3
  | .deviceError => 3#3
  | .framingError => 4#3
  | .addressError => 5#3

/-- The result code, a function of `st` and `err` (R201). -/
def resultCode (st : FsmState) (err : ErrKind) : BitVec 3 := codeOfResult (resultOf st err)

/-- `BUSY`: `st = POLLING` (R33). -/
def busy (s : State) : Bool := s.st == .polling

/-- `DONE`: `st` is terminal (R33, R162). -/
def done (s : State) : Bool := s.st == .converged || s.st == .timedOut || s.st == .failed

/-- `VALID`: `st = CONVERGED` (R33, R234). -/
def valid (s : State) : Bool := s.st == .converged

/-- Register 0, `STATUS` (R33). -/
def statusReg (s : State) : Word :=
  0#16 ++ resultCode s.st s.err ++ s.chan ++ BitVec.ofBool s.pending ++ BitVec.ofBool (valid s) ++
    BitVec.ofBool (done s) ++ BitVec.ofBool (busy s) ++ s.err.code ++ s.st.code

/-- Register 1, `SAMPLE` (R34). -/
def sampleReg (s : State) : Word :=
  0#1 ++ BitVec.ofBool s.smpHave ++ BitVec.ofBool s.smpEoc ++ BitVec.ofBool s.smpSign ++ s.smpRaw

/-- Register 2, `NORM`, 16 bits wide (R35). -/
def normReg (s : State) : BitVec 16 := 0#2 ++ s.smpNorm

/-- Register 3, `XFERS` (R36). -/
def xfersReg (s : State) : Word := s.xfers

/-- Register 4, `LAST_RX` (R37). -/
def lastRxReg (s : State) : Word := s.lastRx.word

/-- Register 5, `CMD` (R38). -/
def cmdReg (s : State) : Word := s.cmd.word

/-- A read by register number; `NORM` is shown in the low half of the word. There is no register but these six (R32). -/
def readReg (n : Nat) (s : State) : Option Word :=
  match n with
  | 0 => some (statusReg s)
  | 1 => some (sampleReg s)
  | 2 => some ((normReg s).setWidth 32)
  | 3 => some (xfersReg s)
  | 4 => some (lastRxReg s)
  | 5 => some (cmdReg s)
  | _ => none

end Sys2Proof.Machine
end

