-- ==== Sys2Proof/Safety.lean ====
section
/-! DEFINITION. Safety.lean: what counts as a good state and a safe run: the invariants of spec/42_polling_fsm.md R160, the
reachable states, the end of an invocation (R162) and its result (R161). -/

namespace Sys2Proof.Machine

/-- A terminal state: the invocation has ended (R162). -/
abbrev State.terminal (s : State) : Prop :=
  s.st = .converged ∨ s.st = .timedOut ∨ s.st = .failed

/-- The states in which `cmd` is the frame of an admitted channel (R160 (c)). -/
abbrev State.begun (s : State) : Prop :=
  s.st = .polling ∨ s.st = .converged ∨ s.st = .timedOut

/-- The nine invariants of R160, by their letters. -/
structure State.Inv (s : State) : Prop where
  /-- (a) -/
  pending_polling : s.pending = true → s.st = .polling
  /-- (b) -/
  err_iff_failed : s.err ≠ .none ↔ s.st = .failed
  /-- (c) -/
  begun_latched : s.begun → s.cmd = commandFrame s.chan ∧ admits s.cfg.addrPolicy s.chan = true
  /-- (d) -/
  converged_sample : s.st = .converged → s.smpHave = true ∧ s.smpEoc = false ∧ 1 ≤ s.xfers.toNat
  /-- (e) -/
  timedOut_sample : s.st = .timedOut → s.smpHave = true ∧ s.smpEoc = true ∧ s.cfg.maxTransfers = .bounded s.xfers
  /-- (f) -/
  xfers_bounded : ∀ n, s.cfg.maxTransfers = .bounded n → s.xfers.toNat ≤ n.toNat
  /-- (g) -/
  idle_reset : s.st = .idle → s = resetBlock s
  /-- (h) -/
  address_record : s.err = .address → s.xfers = 0#32 ∧ s.cmd = Frame.zero ∧ s.smpHave = false
  /-- (i) -/
  polling_below_bound : s.st = .polling → s.pending = false → boundReached s.cfg.maxTransfers s.xfers = false

/-- What else holds of every reachable state and the nine invariants rest on: the parameters are legal (R7), the SPI agent
holds the latched frame exactly while a transfer is pending (R24, R61), counts and samples belong together (R27, R28), and
an error's record is as R202 says. -/
structure State.Coherent (s : State) : Prop where
  params_legal : s.cfg.maxTransfers.legal = true
  spi_holds_cmd : s.spiTx = if s.pending then some s.cmd else none
  pending_counted : s.pending = true → 1 ≤ s.xfers.toNat
  have_counted : s.smpHave = true → 1 ≤ s.xfers.toNat
  sample_decoded : s.smpHave = true →
    decodeSample s.lastRx = ⟨s.smpEoc, s.smpSign, s.smpRaw, s.smpNorm⟩
  sample_cleared : s.smpHave = false →
    s.smpEoc = false ∧ s.smpSign = false ∧ s.smpRaw = 0#28 ∧ s.smpNorm = 0#14 ∧ s.lastRx = Frame.zero
  polling_busy : s.st = .polling → s.smpHave = true → s.smpEoc = true
  transfer_error_record : s.err = .deviceIo ∨ s.err = .framing →
    s.cmd = commandFrame s.chan ∧ admits s.cfg.addrPolicy s.chan = true ∧ 1 ≤ s.xfers.toNat
  address_refused : s.err = .address → admits s.cfg.addrPolicy s.chan = false

/-- A good state: R160's invariants with what they rest on. -/
structure State.Good (s : State) : Prop where
  inv : s.Inv
  coherent : s.Coherent

/-- The states a run of R150 reaches: from RESET, under any legal parameters, by any enabled steps of any agent. -/
inductive State.Reachable : State → Prop
  | reset (s : State) (h : s.cfg.maxTransfers.legal = true) : State.Reachable (resetBlock s)
  | step (i : Instr) (s t : State) (hs : State.Reachable s) (h : exec i s = .next t) : State.Reachable t

/-- The typed result of an invocation (R161). -/
inductive InvocationResult where
  | noResult
  | sample (sign : Bool) (raw : Raw) (norm : BitVec 14)
  | timeout
  | error (k : ErrKind)
deriving DecidableEq, Repr

/-- What a host may take as the result in a state (R161, R234): a sample only when `VALID` is 1. -/
def State.result (s : State) : InvocationResult :=
  match s.st with
  | .idle => .noResult
  | .polling => .noResult
  | .converged => .sample s.smpSign s.smpRaw s.smpNorm
  | .timedOut => .timeout
  | .failed => .error s.err

/-- The moves of an invocation's polling with the given answers: ISSUE, COMPLETE, ISSUE, COMPLETE, … (R163). -/
def pollSchedule : List Answer → List Offer
  | [] => []
  | ans :: rest => .fsmIssue :: .spiComplete ans :: pollSchedule rest

/-- The next state of an outcome, if there is one. -/
def nextOf : Host.Outcome State Fault Refusal → Option State
  | .next t => some t
  | .fault _ => none
  | .refused _ => none

/-- The refusal of an outcome, if there is one. -/
def refusalOf : Host.Outcome State Fault Refusal → Option Refusal
  | .next _ => none
  | .fault _ => none
  | .refused r => some r

end Sys2Proof.Machine
end

