-- ==== Sys2Proof/Certificates/Slice0/Obligations.lean ====
section
/-! DEFINITION. Certificates/Slice0/Obligations.lean: the statements for the provers, in the order of OBLIGATIONS.json. -/

open Sys2Proof Sys2Proof.Machine

/-- The word of the command frame for every channel address, with the two masks of R72 (R72). -/
def Obligations.CommandFrameWord : Prop :=
  ∀ a : Chan,
    (commandFrame a).word = 0xA0000000#32 ||| (a.setWidth 32 <<< 24) ∧
    (commandFrame a).word.toNat = 0xA0000000 + a.toNat * 0x01000000 ∧
    (commandFrame a).word &&& 0xF0FFFFFF#32 = 0xA0000000#32 ∧
    (a.toNat < 8 → (commandFrame a).word.toNat ≤ 0xA7000000 ∧
      (commandFrame a).word &&& 0xF8FFFFFF#32 = 0xA0000000#32) ∧
    ∀ s : State, s.st ≠ .polling → s.cfg.addrPolicy = .truncate →
      ∃ t, exec (.start a) s = .next t ∧ t.cmd = commandFrame a

/-- ENCODE of a valid channel address: byte 0 is 0xA0 + a with bit 3 clear, bytes 1 to 3 are 0 (R102). -/
def Obligations.EncodeBytes : Prop :=
  ∀ a : Chan, a.toNat < 8 →
    (commandFrame a).b0.toNat = 0xA0 + a.toNat ∧ (commandFrame a).b0 = 0x80#8 ||| 0x20#8 ||| a.setWidth 8 ∧
    (commandFrame a).b0.getLsbD 3 = false ∧
    (commandFrame a).b1 = 0#8 ∧ (commandFrame a).b2 = 0#8 ∧ (commandFrame a).b3 = 0#8

/-- The word of a response frame is EOC, ignored bit, SIGN, ignored bit, then D, from bit 31 down (spec/30_encoding.md R73 (the table of bits), spec/20_memory.md R52 (the word view)). Derived. -/
def Obligations.ResponseFrameWord : Prop :=
  ∀ (eoc x6 sign x4 : Bool) (d : Raw),
    (responseFrame eoc x6 sign x4 d).word =
      BitVec.ofBool eoc ++ BitVec.ofBool x6 ++ BitVec.ofBool sign ++ BitVec.ofBool x4 ++ d

/-- EOC, SIGN and D are bits 31, 29 and 27:0 of the word view; bits 30 and 28 are ignored by the decoder (R74). -/
def Obligations.WordViewFields : Prop :=
  ∀ f : Frame,
    f.eocBit = f.word.getLsbD 31 ∧ f.signBit = f.word.getLsbD 29 ∧ f.dField = f.word.extractLsb' 0 28 ∧
    f.dField.setWidth 32 = f.word &&& 0x0FFFFFFF#32 ∧
    ∀ g : Frame, f.word &&& 0xAFFFFFFF#32 = g.word &&& 0xAFFFFFFF#32 → decodeSample f = decodeSample g

/-- The word view weighs byte 0 by 2^24 and byte 3 by 1, and no frame is lost in it (spec/20_memory.md R52 (the equations of W)). Derived. -/
def Obligations.WordViewIsBigEndian : Prop :=
  (∀ f : Frame, f.word.toNat = f.b0.toNat * 2 ^ 24 + f.b1.toNat * 2 ^ 16 + f.b2.toNat * 2 ^ 8 + f.b3.toNat ∧
    Frame.ofWord f.word = f) ∧
  ∀ w : Word, (Frame.ofWord w).word = w

/-- Decoding the encoding of any well-formed instruction gives it back (spec/30_encoding.md R71, R73, R75, spec/opcode_table.json (all nine rows)). Derived. -/
def Obligations.DecodeEncodeRoundTrip : Prop :=
  ∀ i : Instr, i.wellFormed = true → decode (encode i) = .ok i

/-- What the decoder accepts is well formed and encodes back to the same bytes; every response is accepted, as COMPLETE where it is no 4-byte frame (spec/30_encoding.md R71, R75, R76, spec/20_memory.md R56, spec/42_polling_fsm.md R154, R155). Derived. -/
def Obligations.EncodeDecodeRoundTrip : Prop :=
  (∀ bytes i, decode (.outbound bytes) = .ok i → i.wellFormed = true ∧ encode i = .outbound bytes) ∧
  (∀ f : Frame, ∃ i, decode (.inbound (.ok f.bytes)) = .ok i ∧ i.wellFormed = true ∧
    encode i = .inbound (.ok f.bytes)) ∧
  (∀ bytes, bytes.length ≠ 4 → decode (.outbound bytes) = .error .commandLength ∧
    decode (.inbound (.ok bytes)) = .ok (.complete (.ok bytes))) ∧
  decode (.inbound .ioError) = .ok (.complete .ioError)

/-- Every response word matches exactly one of the three RSP rows, and the decoder gives that row (spec/30_encoding.md R75 (the classes and their match and mask)). Derived. -/
def Obligations.ResponseRowsPartition : Prop :=
  ∀ f : Frame,
    (f.b0.getLsbD 7 = true →
      rowRspBusy.hits f.word = true ∧ rowRspDataPos.hits f.word = false ∧ rowRspDataNeg.hits f.word = false ∧
      decodeResponse f = .rspBusy f.bit6 f.bit4 f.signBit f.dField) ∧
    (f.b0.getLsbD 7 = false → f.b0.getLsbD 5 = true →
      rowRspBusy.hits f.word = false ∧ rowRspDataPos.hits f.word = true ∧ rowRspDataNeg.hits f.word = false ∧
      decodeResponse f = .rspDataPos f.bit6 f.bit4 f.dField) ∧
    (f.b0.getLsbD 7 = false → f.b0.getLsbD 5 = false →
      rowRspBusy.hits f.word = false ∧ rowRspDataPos.hits f.word = false ∧ rowRspDataNeg.hits f.word = true ∧
      decodeResponse f = .rspDataNeg f.bit6 f.bit4 f.dField)

/-- An outbound frame is accepted exactly when it is the command frame of a channel address (spec/30_encoding.md R71, R72, R76, spec/opcode_table.json rows READ, READ_ALIAS). Derived. -/
def Obligations.CommandDecodeIsExact : Prop :=
  (∀ (f : Frame) (a : Chan), decodeCommand f = .ok (.read a) ↔ a.toNat < 8 ∧ f = commandFrame a) ∧
  (∀ (f : Frame) (a : Chan), decodeCommand f = .ok (.readAlias a) ↔ 8 ≤ a.toNat ∧ f = commandFrame a) ∧
  ∀ f : Frame, (∀ a, f ≠ commandFrame a) → decodeCommand f = .error .notACommand

/-- Words written out from the encodings decode to the instructions they stand for (spec/30_encoding.md R71, R73, R79, spec/95_test_vectors.md V1, V2). Derived. -/
def Obligations.SampleWordsDecode : Prop :=
  decode (.outbound [0xA3#8, 0#8, 0#8, 0#8]) = .ok (.read 3#4) ∧
  decode (.outbound [0xA9#8, 0#8, 0#8, 0#8]) = .ok (.readAlias 9#4) ∧
  decode (.inbound (.ok [0xA3#8, 0x12#8, 0x34#8, 0x56#8])) = .ok (.rspBusy false false true 0x3123456#28) ∧
  decode (.inbound (.ok [0x2A#8, 0xBC#8, 0xDE#8, 0xF0#8])) = .ok (.rspDataPos false false 0xABCDEF0#28) ∧
  decode (.inbound (.ok [0x50#8, 0#8, 0#8, 0#8])) = .ok (.rspDataNeg true true 0#28) ∧
  decode (.outbound [0xA0#8, 0#8, 0#8, 1#8]) = .error .notACommand

/-- DECODE: the four fields of the sample, from the bytes of the frame alone (R127). -/
def Obligations.DecodeFields : Prop :=
  ∀ rx : Frame,
    (decodeSample rx).eoc = rx.b0.getLsbD 7 ∧ (decodeSample rx).sign = rx.b0.getLsbD 5 ∧
    (decodeSample rx).raw =
      (if rx.b0.getLsbD 5 then rx.b0.extractLsb' 0 4 ++ rx.b1 ++ rx.b2 ++ rx.b3
        else (rx.b0.extractLsb' 0 4 ++ rx.b1 ++ rx.b2 ++ rx.b3) ^^^ 0x0FFFFFFF#28) ∧
    (decodeSample rx).norm.toNat = (23000 * (decodeSample rx).raw.toNat + 268435455) / 536870910 ∧
    decodeSample { rx with b0 := rx.b0 &&& 0xAF#8 } = decodeSample rx

/-- raw_data is pre, inverted within 28 bits when sign is 0 (R124). -/
def Obligations.RawInversion : Prop :=
  ∀ pre : Raw,
    rawOf true pre = pre ∧ rawOf false pre = pre ^^^ 0x0FFFFFFF#28 ∧
    (rawOf false pre).toNat = 0x0FFFFFFF - pre.toNat ∧
    rawOf false 0#28 = 0x0FFFFFFF#28 ∧ rawOf false 0x0FFFFFFF#28 = 0#28

/-- The five laws (a) to (e) of the decoder (R130). -/
def Obligations.DecoderLaws : Prop :=
  (∀ rx : Frame, rx.b0.getLsbD 5 = false → (decodeSample rx).raw.toNat = 0x0FFFFFFF - (preOf rx).toNat) ∧
  (∀ pre : Raw, rawOf false (rawOf false pre) = pre) ∧
  (∀ f g : Frame, f.b0 &&& 0xAF#8 = g.b0 &&& 0xAF#8 → f.b1 = g.b1 → f.b2 = g.b2 → f.b3 = g.b3 →
    decodeSample f = decodeSample g) ∧
  (∀ f g : Frame, f.b0 &&& 0x7F#8 = g.b0 &&& 0x7F#8 → f.b1 = g.b1 → f.b2 = g.b2 → f.b3 = g.b3 →
    { decodeSample f with eoc := (decodeSample g).eoc } = decodeSample g) ∧
  ∀ raw : Raw, (normCenti raw).toNat ≤ 11500 ∧
    ((normCenti raw).toNat : Rat) - 100 * normalized raw < 1 / 2 ∧
    100 * normalized raw - ((normCenti raw).toNat : Rat) < 1 / 2

/-- normalized is the exact rational raw * 115 / 268435455, from 0 to 115 (R125). -/
def Obligations.NormalizedIsExactRational : Prop :=
  (∀ raw : Raw, normalized raw = (raw.toNat : Rat) / 268435455 * (115 / 100) * 100 ∧
    normalized raw = (raw.toNat : Rat) * 115 / 268435455 ∧ 0 ≤ normalized raw ∧ normalized raw ≤ 115) ∧
  normalized 0#28 = 0 ∧ normalized 0x0FFFFFFF#28 = 115 ∧ normalized 0x08000000#28 = 15435038720 / 268435455

/-- norm_centi is 100 * normalized rounded to nearest: formula, range, no tie, monotone, boundaries (R126). -/
def Obligations.NormCentiRoundsToNearest : Prop :=
  (∀ raw : Raw,
    (normCenti raw).toNat = (2 * 11500 * raw.toNat + 268435455) / (2 * 268435455) ∧
    ((normCenti raw).toNat : Rat) ≤ 100 * normalized raw + 1 / 2 ∧
    100 * normalized raw + 1 / 2 < ((normCenti raw).toNat : Rat) + 1 ∧
    (normCenti raw).toNat ≤ 11500 ∧ 2 * 11500 * raw.toNat + 268435455 < 2 ^ 43 ∧
    (∀ k : Nat, 23000 * raw.toNat ≠ (2 * k + 1) * 268435455) ∧
    (∀ raw' : Raw, raw.toNat ≤ raw'.toNat → (normCenti raw).toNat ≤ (normCenti raw').toNat) ∧
    (normCenti raw = 1#14 → 11672 ≤ raw.toNat) ∧ (normCenti raw = 2#14 → 35014 ≤ raw.toNat)) ∧
  normCenti 0#28 = 0#14 ∧ normCenti 0x0FFFFFFF#28 = 11500#14 ∧ normCenti 0x00FFFFFF#28 = 719#14 ∧
  normCenti 11672#28 = 1#14 ∧ normCenti 35014#28 = 2#14

/-- RESET is enabled in every state and sets every field of the block to its reset value (R230, R39). -/
def Obligations.ResetSetsEveryField : Prop :=
  ∀ s : State,
    exec .reset s = .next
    { st := .idle, err := .none, pending := false, chan := 0#4, cmd := ⟨0#8, 0#8, 0#8, 0#8⟩, xfers := 0#32,
      smpHave := false, smpEoc := false, smpSign := false, smpRaw := 0#28, smpNorm := 0#14,
      lastRx := ⟨0#8, 0#8, 0#8, 0#8⟩, spiTx := none, cfg := s.cfg, moves := s.moves, draws := s.draws } ∧
    (s.Inv → s.st = .idle → exec .reset s = .next s) ∧ (⟨0#8, 0#8, 0#8, 0#8⟩ : Frame).word = 0#32 ∧
    exec .reset State.reset = .next { State.reset with spiTx := none }

/-- After RESET all six status registers read 0 (spec/10_state.md R33 to R38 (reset columns), spec/95_test_vectors.md V6). Derived. -/
def Obligations.StatusRegistersReadZeroAfterReset : Prop :=
  ∀ s t : State, exec .reset s = .next t → ∀ n, n < 6 → readReg n t = some 0#32

/-- START outside POLLING: a new invocation on an admitted address, FAILED with ADDRESS on a refused one (R151). -/
def Obligations.StartBeginsInvocation : Prop :=
  ∀ (a : Chan) (s : State), s.st ≠ .polling →
    (¬ (s.cfg.addrPolicy = .reject ∧ 8 ≤ a.toNat) → exec (.start a) s = .next
      { s with
        st := .polling, err := .none, pending := false, chan := a,
        cmd := ⟨0x80#8 ||| 0x20#8 ||| a.setWidth 8, 0#8, 0#8, 0#8⟩, xfers := 0#32, smpHave := false, smpEoc := false,
        smpSign := false, smpRaw := 0#28, smpNorm := 0#14, lastRx := ⟨0#8, 0#8, 0#8, 0#8⟩, spiTx := none }) ∧
    (s.cfg.addrPolicy = .reject ∧ 8 ≤ a.toNat → exec (.start a) s = .next
      { s with
        st := .failed, err := .address, pending := false, chan := a,
        cmd := ⟨0#8, 0#8, 0#8, 0#8⟩, xfers := 0#32, smpHave := false, smpEoc := false,
        smpSign := false, smpRaw := 0#28, smpNorm := 0#14, lastRx := ⟨0#8, 0#8, 0#8, 0#8⟩, spiTx := none })

/-- START while POLLING changes no field (R152). -/
def Obligations.StartIgnoredWhilePolling : Prop :=
  ∀ (a : Chan) (s : State), s.st = .polling → exec (.start a) s = .next s

/-- START gives the same state from any two states outside POLLING with the same surroundings (spec/42_polling_fsm.md R151 (corner cases), spec/10_state.md R20). Derived. -/
def Obligations.StartForgetsThePast : Prop :=
  ∀ (a : Chan) (s s' : State), s.st ≠ .polling → s'.st ≠ .polling →
    s.cfg = s'.cfg → s.moves = s'.moves → s.draws = s'.draws → exec (.start a) s = exec (.start a) s'

/-- ADMIT accepts 0 to 7 under Reject and every 4-bit address under Truncate (R104). -/
def Obligations.AdmitByPolicy : Prop :=
  ∀ a : Chan,
    (admits .reject a = true ↔ a.toNat ≤ 7) ∧ admits .truncate a = true ∧
    admits .reject 7#4 = true ∧ admits .reject 8#4 = false ∧
    ∀ s : State, s.st ≠ .polling → admits s.cfg.addrPolicy a = false →
      ∃ t, exec (.start a) s = .next t ∧ t.st = .failed ∧ t.err = .address

/-- ISSUE hands cmd to the SPI agent, sets pending and counts, exactly when it is enabled (R153). -/
def Obligations.IssueSendsLatchedFrame : Prop :=
  ∀ s : State,
    (s.st = .polling ∧ s.pending = false → exec .issue s = .next
      { s with
        pending := true, xfers := BitVec.ofNat 32 (min (s.xfers.toNat + 1) (2 ^ 32 - 1)), spiTx := some s.cmd }) ∧
    (¬ (s.st = .polling ∧ s.pending = false) → ∀ t, exec .issue s ≠ .next t)

/-- The transfer counter counts ISSUE steps by one and stays at 2^32 - 1 (spec/10_state.md R27, spec/60_exceptions.md R209). Derived. -/
def Obligations.CounterSaturates : Prop :=
  (∀ s t : State, exec .issue s = .next t →
    (s.xfers ≠ 0xFFFFFFFF#32 → t.xfers.toNat = s.xfers.toNat + 1) ∧
    (s.xfers = 0xFFFFFFFF#32 → t.xfers = 0xFFFFFFFF#32)) ∧
  ∀ (i : Instr) (s t : State), exec i s = .next t → t.xfers ≠ s.xfers →
    i = .issue ∨ i = .reset ∨ ∃ a, i = .read a ∨ i = .readAlias a ∨ i = .start a

/-- READ a and READ_ALIAS a: the ISSUE that sends CMD(a) (the reading of log entry 1) (spec/30_encoding.md R71, R79, spec/40_command_encoder.md R100, R103, spec/42_polling_fsm.md R153, notes/assumptions/1.md). Derived. -/
def Obligations.ReadSendsItsFrame : Prop :=
  ∀ (a : Chan) (s : State), s.st = .polling → s.pending = false →
    s.cmd = ⟨0xA0#8 ||| a.setWidth 8, 0#8, 0#8, 0#8⟩ →
    (a.toNat < 8 → exec (.read a) s = .next
      { s with
        pending := true, xfers := BitVec.ofNat 32 (min (s.xfers.toNat + 1) (2 ^ 32 - 1)),
        spiTx := some ⟨0xA0#8 ||| a.setWidth 8, 0#8, 0#8, 0#8⟩ }) ∧
    (8 ≤ a.toNat → exec (.readAlias a) s = .next
      { s with
        pending := true, xfers := BitVec.ofNat 32 (min (s.xfers.toNat + 1) (2 ^ 32 - 1)),
        spiTx := some ⟨0xA0#8 ||| a.setWidth 8, 0#8, 0#8, 0#8⟩ })

/-- A command frame goes out exactly when it is latched and ISSUE is enabled, and then as ISSUE sends it (log entries 1, 10) (spec/20_memory.md R61, spec/42_polling_fsm.md R153, R165, notes/assumptions/1.md, notes/assumptions/10.md). Derived. -/
def Obligations.FrameSentOnlyWhenLatched : Prop :=
  ∀ (i : Instr) (a : Chan) (s : State), i = .read a ∨ i = .readAlias a →
    (s.cmd = commandFrame a → exec i s = exec .issue s) ∧
    (s.cmd ≠ commandFrame a → exec i s = .refused .frameNotLatched) ∧
    (¬ (s.st = .polling ∧ s.pending = false) → exec .issue s = .refused .issueNotEnabled)

/-- Whatever the SPI agent is handed is the frame of the latched channel, and of 8 to 15 only under Truncate (spec/40_command_encoder.md R103, R105, spec/20_memory.md R61, spec/30_encoding.md R76). Derived. -/
def Obligations.OnlyAdmittedCommandFramesGoOut : Prop :=
  ∀ (i : Instr) (s t : State) (tx : Frame), s.Good → exec i s = .next t → t.spiTx = some tx →
    tx = commandFrame t.chan ∧ tx = t.cmd ∧ tx.word &&& 0xF0FFFFFF#32 = 0xA0000000#32 ∧
    (8 ≤ t.chan.toNat → t.cfg.addrPolicy = .truncate)

/-- COMPLETE(IoError): FAILED with DEVICE_IO, samples and counter kept (R154). -/
def Obligations.CompleteIoErrorFails : Prop :=
  ∀ s : State, s.pending = true → exec (.complete .ioError) s = .next
    { s with st := .failed, err := .deviceIo, pending := false, spiTx := none }

/-- COMPLETE with a response that has not 4 bytes: FAILED with FRAMING, nothing recorded (R155). -/
def Obligations.CompleteWrongLengthFails : Prop :=
  (∀ (s : State) (bytes : List Byte), s.pending = true → bytes.length ≠ 4 →
    exec (.complete (.ok bytes)) s = .next { s with st := .failed, err := .framing, pending := false, spiTx := none }) ∧
  ∀ (s t : State) (bytes : List Byte), bytes.length = 4 → exec (.complete (.ok bytes)) s = .next t →
    t.err = .framing → s.err = .framing

/-- COMPLETE with a 4-byte response whose EOC is 0: CONVERGED with the decoded sample, before the bound is looked at (R156). -/
def Obligations.CompleteConverges : Prop :=
  (∀ (s : State) (rx : Frame), s.pending = true → rx.b0.getLsbD 7 = false →
    exec (.complete (.ok rx.bytes)) s = .next
      { s with
        st := .converged, pending := false, spiTx := none, smpHave := true, smpEoc := false,
        smpSign := rx.b0.getLsbD 5, smpRaw := (decodeSample rx).raw, smpNorm := (decodeSample rx).norm,
        lastRx := rx }) ∧
  (decodeSample ⟨0#8, 0#8, 0#8, 0#8⟩).raw = 0x0FFFFFFF#28 ∧
  decodeSample ⟨0x2F#8, 0xFF#8, 0xFF#8, 0xFF#8⟩ = ⟨false, true, 0x0FFFFFFF#28, 11500#14⟩ ∧
  decodeSample ⟨0x20#8, 0xFF#8, 0xFF#8, 0xFF#8⟩ = ⟨false, true, 0x00FFFFFF#28, 719#14⟩

/-- COMPLETE with a busy response below the bound: the sample is recorded and ISSUE is enabled again (R157). -/
def Obligations.CompleteBusyKeepsPolling : Prop :=
  ∀ (s : State) (rx : Frame), s.pending = true → rx.b0.getLsbD 7 = true →
    (∀ n, s.cfg.maxTransfers = .bounded n → s.xfers.toNat < n.toNat) →
    exec (.complete (.ok rx.bytes)) s = .next
      { s with
        pending := false, spiTx := none, smpHave := true, smpEoc := true,
        smpSign := rx.b0.getLsbD 5, smpRaw := (decodeSample rx).raw, smpNorm := (decodeSample rx).norm,
        lastRx := rx } ∧
    (s.st = .polling → ∀ t, exec (.complete (.ok rx.bytes)) s = .next t → ∃ u, exec .issue t = .next u)

/-- COMPLETE with a busy response at the bound: TIMED_OUT with err unchanged (spec/42_polling_fsm.md R158 (the case, its pseudocode and errors), spec/60_exceptions.md R204). Derived. -/
def Obligations.CompleteBusyTimesOut : Prop :=
  ∀ (s : State) (rx : Frame) (n : BitVec 32), s.pending = true → rx.b0.getLsbD 7 = true →
    s.cfg.maxTransfers = .bounded n → n.toNat ≤ s.xfers.toNat →
    exec (.complete (.ok rx.bytes)) s = .next
      { s with
        st := .timedOut, pending := false, spiTx := none, smpHave := true, smpEoc := true,
        smpSign := rx.b0.getLsbD 5, smpRaw := (decodeSample rx).raw, smpNorm := (decodeSample rx).norm,
        lastRx := rx } ∧
    (s.Inv → s.err = .none ∧ s.xfers = n ∧ resultCode .timedOut s.err = 2#3)

/-- RSP_DATA_POS and RSP_DATA_NEG: the whole next state, for every D and every value of the ignored bits (spec/30_encoding.md R75, spec/42_polling_fsm.md R156, spec/41_response_decoder.md R124, R126). Derived. -/
def Obligations.ResponseDataConverges : Prop :=
  ∀ (x6 x4 : Bool) (d : Raw) (s : State), s.pending = true →
    exec (.rspDataPos x6 x4 d) s = .next
      { s with
        st := .converged, pending := false, spiTx := none, smpHave := true, smpEoc := false, smpSign := true,
        smpRaw := d, smpNorm := BitVec.ofNat 14 ((23000 * d.toNat + 268435455) / 536870910),
        lastRx := responseFrame false x6 true x4 d } ∧
    exec (.rspDataNeg x6 x4 d) s = .next
      { s with
        st := .converged, pending := false, spiTx := none, smpHave := true, smpEoc := false, smpSign := false,
        smpRaw := d ^^^ 0x0FFFFFFF#28,
        smpNorm := BitVec.ofNat 14 ((23000 * (268435455 - d.toNat) + 268435455) / 536870910),
        lastRx := responseFrame false x6 false x4 d }

/-- RSP_BUSY: the whole next state below and at the bound (spec/30_encoding.md R75, spec/42_polling_fsm.md R157, R158). Derived. -/
def Obligations.ResponseBusyRecords : Prop :=
  ∀ (x6 x4 sign : Bool) (d : Raw) (s : State), s.pending = true →
    ∃ st', exec (.rspBusy x6 x4 sign d) s = .next
      { s with
        st := st', pending := false, spiTx := none, smpHave := true, smpEoc := true, smpSign := sign,
        smpRaw := if sign then d else d ^^^ 0x0FFFFFFF#28,
        smpNorm := normCenti (if sign then d else d ^^^ 0x0FFFFFFF#28),
        lastRx := responseFrame true x6 sign x4 d } ∧
    ((∀ n, s.cfg.maxTransfers = .bounded n → s.xfers.toNat < n.toNat) → st' = s.st) ∧
    (∀ n, s.cfg.maxTransfers = .bounded n → n.toNat ≤ s.xfers.toNat → st' = .timedOut)

/-- The instruction decoded from a 4-byte response does what COMPLETE does with that response (spec/30_encoding.md R75 (what COMPLETE does), spec/42_polling_fsm.md R156 to R159). Derived. -/
def Obligations.ResponseRowsAreComplete : Prop :=
  ∀ (f : Frame) (s : State), exec (decodeResponse f) s = exec (.complete (.ok f.bytes)) s

/-- Without a pending transfer no answer is taken (refused by name: log entry 10) (spec/20_memory.md R63 (b), spec/42_polling_fsm.md R150, R165, notes/assumptions/10.md). Derived. -/
def Obligations.CompleteNeedsPendingTransfer : Prop :=
  ∀ s : State, s.pending = false →
    (∀ ans, exec (.complete ans) s = .refused .completeNotEnabled) ∧
    ∀ f : Frame, exec (decodeResponse f) s = .refused .completeNotEnabled

/-- Response bits 6 and 4 change nothing but the raw bytes last_rx shows (log entry 9) (spec/30_encoding.md R76, spec/10_state.md R29, notes/assumptions/9.md). Derived. -/
def Obligations.IgnoredBitsReachOnlyLastRx : Prop :=
  ∀ (f g : Frame) (s t : State), f.word &&& 0xAFFFFFFF#32 = g.word &&& 0xAFFFFFFF#32 →
    exec (.complete (.ok f.bytes)) s = .next t → exec (.complete (.ok g.bytes)) s = .next { t with lastRx := g }

/-- The ten rows of the transition table, and no other step (R165). -/
def Obligations.TransitionTable : Prop :=
  ∀ s : State, s.Inv →
    (∃ t, exec .reset s = .next t ∧ t.st = .idle ∧ t.pending = false) ∧
    (∀ a, s.st ≠ .polling → s.pending = false ∧
      (admits s.cfg.addrPolicy a = true → ∃ t, exec (.start a) s = .next t ∧ t.st = .polling ∧ t.pending = false) ∧
      (admits s.cfg.addrPolicy a = false →
        ∃ t, exec (.start a) s = .next t ∧ t.st = .failed ∧ t.err = .address ∧ t.pending = false)) ∧
    (∀ a, s.st = .polling → exec (.start a) s = .next s) ∧
    (s.st = .polling → s.pending = false → ∃ t, exec .issue s = .next t ∧ t.st = .polling ∧ t.pending = true) ∧
    (s.pending = true → s.st = .polling ∧
      (∃ t, exec (.complete .ioError) s = .next t ∧ t.st = .failed ∧ t.err = .deviceIo ∧ t.pending = false) ∧
      (∀ bytes, bytes.length ≠ 4 →
        ∃ t, exec (.complete (.ok bytes)) s = .next t ∧ t.st = .failed ∧ t.err = .framing ∧ t.pending = false) ∧
      ∀ rx : Frame, ∃ t, exec (.complete (.ok rx.bytes)) s = .next t ∧ t.pending = false ∧
        (rx.b0.getLsbD 7 = false → t.st = .converged) ∧
        (rx.b0.getLsbD 7 = true → boundReached s.cfg.maxTransfers s.xfers = true → t.st = .timedOut) ∧
        (rx.b0.getLsbD 7 = true → boundReached s.cfg.maxTransfers s.xfers = false → t.st = .polling)) ∧
    (¬ (s.st = .polling ∧ s.pending = false) → ∀ t, exec .issue s ≠ .next t) ∧
    (s.pending = false → ∀ ans t, exec (.complete ans) s ≠ .next t)

/-- Each field is written only by the steps R21 names for it (spec/10_state.md R21 (column written by), R25, R26, spec/20_memory.md R61). Derived. -/
def Obligations.FieldsWrittenOnlyByTheirSteps : Prop :=
  ∀ (i : Instr) (s t : State), exec i s = .next t →
    t.cfg = s.cfg ∧ t.moves = s.moves ∧ t.draws = s.draws ∧
    (i ≠ .reset → (∀ a, i ≠ .start a) →
      t.chan = s.chan ∧ t.cmd = s.cmd ∧
      (i = .issue ∨ (∃ a, i = .read a ∨ i = .readAlias a) →
        t.st = s.st ∧ t.err = s.err ∧ t.smpHave = s.smpHave ∧ t.smpEoc = s.smpEoc ∧ t.smpSign = s.smpSign ∧
        t.smpRaw = s.smpRaw ∧ t.smpNorm = s.smpNorm ∧ t.lastRx = s.lastRx) ∧
      (¬ (i = .issue ∨ (∃ a, i = .read a ∨ i = .readAlias a)) → t.xfers = s.xfers))

/-- Within an invocation the channel and the command frame stay the same, whatever the host starts (spec/20_memory.md R61, spec/70_reset_and_hazards.md R236, spec/40_command_encoder.md R105). Derived. -/
def Obligations.PollingKeepsItsFrame : Prop :=
  ∀ (i : Instr) (s t : State), s.st = .polling → i ≠ .reset → exec i s = .next t → t.st = .polling →
    t.chan = s.chan ∧ t.cmd = s.cmd

/-- At most one transfer is outstanding: while one is pending no other is issued (spec/20_memory.md R59, spec/10_state.md R24). Derived. -/
def Obligations.NoOverlappingTransfers : Prop :=
  ∀ (i : Instr) (s t : State), s.Good → s.pending = true → exec i s = .next t →
    (t.pending = true → t.spiTx = s.spiTx ∧ t.xfers = s.xfers) ∧
    i ≠ .issue ∧ ∀ a, i ≠ .read a ∧ i ≠ .readAlias a

/-- A terminal state is left only by START or RESET; step then waits for the host (log entry 7) (spec/42_polling_fsm.md R162, spec/60_exceptions.md R206, R207, notes/assumptions/7.md). Derived. -/
def Obligations.TerminalStatesLeftOnlyByHost : Prop :=
  ∀ s : State, s.Inv → s.terminal →
    (∀ i t, exec i s = .next t → i = .reset ∨ ∃ a, i = .start a) ∧
    (s.moves = [] → step s = .fault .awaitsHost)

/-- Only the COMPLETE of a 4-byte response whose EOC is 0 enters CONVERGED (spec/41_response_decoder.md R129, spec/42_polling_fsm.md R156, spec/95_test_vectors.md W5). Derived. -/
def Obligations.OnlyFinalResponseConverges : Prop :=
  ∀ (i : Instr) (s t : State), exec i s = .next t → s.st ≠ .converged → t.st = .converged →
    s.pending = true ∧ t.lastRx.b0.getLsbD 7 = false ∧
    decodeSample t.lastRx = ⟨t.smpEoc, t.smpSign, t.smpRaw, t.smpNorm⟩ ∧ t.smpHave = true ∧
    (i = .complete (.ok t.lastRx.bytes) ∨ i = decodeResponse t.lastRx)

/-- FAILED and TIMED_OUT are entered only by their four causes, with their error codes (spec/60_exceptions.md R200 (causes), R203, R204). Derived. -/
def Obligations.ErrorCauses : Prop :=
  ∀ (i : Instr) (s t : State), exec i s = .next t →
    (s.st ≠ .failed → t.st = .failed →
      (∃ a, i = .start a ∧ 8 ≤ a.toNat ∧ s.cfg.addrPolicy = .reject ∧ t.err = .address) ∨
      (i = .complete .ioError ∧ s.pending = true ∧ t.err = .deviceIo) ∨
      (∃ bytes, i = .complete (.ok bytes) ∧ bytes.length ≠ 4 ∧ s.pending = true ∧ t.err = .framing)) ∧
    (s.st ≠ .timedOut → t.st = .timedOut →
      s.pending = true ∧ t.lastRx.b0.getLsbD 7 = true ∧ t.err = s.err ∧
      (i = .complete (.ok t.lastRx.bytes) ∨ i = decodeResponse t.lastRx) ∧
      ∃ n, s.cfg.maxTransfers = .bounded n ∧ n.toNat ≤ s.xfers.toNat)

/-- What each error leaves in the state, in every reachable state (spec/60_exceptions.md R202, spec/10_state.md R26). Derived. -/
def Obligations.ErrorRecords : Prop :=
  ∀ s : State, s.Reachable →
    (s.err = .address → s.cfg.addrPolicy = .reject ∧ 8 ≤ s.chan.toNat ∧ s.cmd.word = 0#32 ∧ s.xfers = 0#32 ∧
      s.smpHave = false ∧ s.smpEoc = false ∧ s.smpSign = false ∧ s.smpRaw = 0#28 ∧ s.smpNorm = 0#14 ∧
      s.lastRx.word = 0#32) ∧
    (s.err = .deviceIo ∨ s.err = .framing → s.cmd = commandFrame s.chan ∧ 1 ≤ s.xfers.toNat ∧
      (s.smpHave = true → decodeSample s.lastRx = ⟨s.smpEoc, s.smpSign, s.smpRaw, s.smpNorm⟩) ∧
      (s.smpHave = false → s.smpEoc = false ∧ s.smpSign = false ∧ s.smpRaw = 0#28 ∧ s.smpNorm = 0#14 ∧
        s.lastRx.word = 0#32)) ∧
    (s.st = .timedOut → s.cfg.maxTransfers = .bounded s.xfers ∧ s.smpEoc = true ∧ s.lastRx.b0.getLsbD 7 = true)

/-- Every state reachable from RESET, by any steps under any legal parameters, meets the nine invariants (a) to (i) (R160). -/
def Obligations.ReachableStatesMeetInvariants : Prop :=
  ∀ s : State, s.Reachable → s.Inv

/-- The state after RESET is good, whatever the legal parameters and the offered moves (spec/42_polling_fsm.md R160, spec/70_reset_and_hazards.md R232, notes/assumptions/3.md, notes/assumptions/15.md). Derived. -/
def Obligations.ResetStateIsGood : Prop :=
  (∀ s t : State, s.cfg.maxTransfers.legal = true → exec .reset s = .next t → t.Good) ∧ State.reset.Good

/-- Every step of the machine keeps the invariants, from every good state (spec/42_polling_fsm.md R160 (each one is kept by every step), spec/10_state.md R24, R26 to R28, spec/60_exceptions.md R202). Derived. -/
def Obligations.StepKeepsGood : Prop :=
  ∀ s t : State, s.Good → step s = .next t → t.Good

/-- With MAX_TRANSFERS = N polling ends after at most N transfers in all, whatever the answers (spec/42_polling_fsm.md R163 (a), spec/70_reset_and_hazards.md R239). Derived. -/
def Obligations.BoundedPollingTerminates : Prop :=
  ∀ (n : BitVec 32) (answers : List Answer) (s : State),
    s.cfg.maxTransfers = .bounded n → s.st = .polling → s.pending = false → s.xfers.toNat < n.toNat →
    n.toNat - s.xfers.toNat ≤ answers.length → s.moves = pollSchedule answers →
    ∃ (k : Nat) (t : State), k ≤ n.toNat - s.xfers.toNat ∧ Host.Core.run Sys2Proof.core (2 * k) s = .next t ∧ t.terminal

/-- Left alone, a bounded POLLING block runs to a terminal state by its own and the SPI agent's moves (log entry 4) (spec/42_polling_fsm.md R163 (a), R164, spec/20_memory.md R63 (d), notes/assumptions/4.md). Derived. -/
def Obligations.OwnRunTerminates : Prop :=
  ∀ (n : BitVec 32) (s : State),
    s.cfg.maxTransfers = .bounded n → s.st = .polling → s.moves = [] → s.xfers.toNat ≤ n.toNat →
    (s.pending = false → s.xfers.toNat < n.toNat) →
    ∃ (k : Nat) (t : State), k ≤ 2 * (n.toNat - s.xfers.toNat) + 1 ∧
      Host.Core.run Sys2Proof.core k s = .next t ∧ t.terminal

/-- Under UNBOUNDED any number of busy answers leaves the block in POLLING (spec/42_polling_fsm.md R163 (b), spec/70_reset_and_hazards.md R239). Derived. -/
def Obligations.UnboundedBusyNeverEnds : Prop :=
  ∀ (busyFrames : List Frame) (s : State),
    s.cfg.maxTransfers = .unbounded → s.st = .polling → s.pending = false →
    (∀ f ∈ busyFrames, f.b0.getLsbD 7 = true) →
    s.moves = pollSchedule (busyFrames.map fun f => .ok f.bytes) →
    ∃ t : State, Host.Core.run Sys2Proof.core (2 * busyFrames.length) s = .next t ∧
      t.st = .polling ∧ t.pending = false ∧ t.moves = [] ∧ t.cmd = s.cmd

/-- With no move offered, step makes the ISSUE or COMPLETE owed, and waits for the host exactly elsewhere (the model's choice: log entries 4, 7) (spec/42_polling_fsm.md R162, R164, notes/assumptions/4.md, notes/assumptions/7.md). Derived. -/
def Obligations.PollingIsNeverAnEnd : Prop :=
  ∀ s : State, s.moves = [] →
    (s.st = .polling → s.pending = false → ∃ t, step s = .next t ∧ exec .issue s = .next t) ∧
    (s.pending = true → ∃ ans t, step s = .next t ∧ exec (.complete ans) { s with draws := s.draws + 1 } = .next t) ∧
    (step s = .fault .awaitsHost ↔ s.st ≠ .polling ∧ s.pending = false)

/-- A step runs the instruction decoded from the first offered move (log entry 7); with none offered, the owed move (the model's choice: log entry 4) (spec/42_polling_fsm.md R150, notes/assumptions/4.md, notes/assumptions/7.md). Derived. -/
def Obligations.StepRunsDecodedInstruction : Prop :=
  (∀ (s : State) (o : Offer) (rest : List Offer) (i : Instr), s.moves = o :: rest → decode o = .ok i →
    step s = exec i { s with moves := rest }) ∧
  (∀ (s : State) (o : Offer) (rest : List Offer) (e : DecodeError), s.moves = o :: rest → decode o = .error e →
    step s = .refused (.undecodable e)) ∧
  (∀ s : State, s.moves = [] → s.st = .polling → s.pending = false → step s = exec .issue s) ∧
  ∀ s : State, s.moves = [] → s.pending = true →
    step s = exec (.complete (Config.spiAnswer s.draws)) { s with draws := s.draws + 1 }

/-- A table word placed by withFetchWord is the very next instruction, and it runs (log entry 8) (notes/assumptions/8.md, spec/opcode_table.json (the five frame rows)). Derived. -/
def Obligations.PlacedWordRunsNext : Prop :=
  ∀ (s : State) (nbits w : Nat) (i : Instr), decodeTableWord nbits w = some i →
    ∃ s' t, s'.moves = s.moves ∧ step (s.withFetchWord nbits w) = exec i s' ∧ exec i s' = .next t

/-- The codes of st and err are those of the tables (spec/10_state.md R22, R23 (the tables of codes)). Derived. -/
def Obligations.StateAndErrorCodes : Prop :=
  FsmState.idle.code = 0#3 ∧ FsmState.polling.code = 1#3 ∧ FsmState.converged.code = 2#3 ∧
  FsmState.timedOut.code = 3#3 ∧ FsmState.failed.code = 4#3 ∧
  ErrKind.none.code = 0#2 ∧ ErrKind.deviceIo.code = 1#2 ∧ ErrKind.framing.code = 2#2 ∧ ErrKind.address.code = 3#2

/-- STATUS shows every field of the table of R33 at its bits (R33). -/
def Obligations.StatusRegisterFields : Prop :=
  (∀ s : State,
    (statusReg s).extractLsb' 0 3 = s.st.code ∧ (statusReg s).extractLsb' 3 2 = s.err.code ∧
    ((statusReg s).getLsbD 5 = true ↔ s.st = .polling) ∧
    ((statusReg s).getLsbD 6 = true ↔ s.st = .converged ∨ s.st = .timedOut ∨ s.st = .failed) ∧
    ((statusReg s).getLsbD 7 = true ↔ s.st = .converged) ∧ (statusReg s).getLsbD 8 = s.pending ∧
    (statusReg s).extractLsb' 9 4 = s.chan ∧ (statusReg s).extractLsb' 13 3 = resultCode s.st s.err ∧
    (statusReg s).extractLsb' 16 16 = 0#16 ∧ readReg 0 s = some (statusReg s)) ∧
  statusReg State.reset = 0#32

/-- SAMPLE and NORM are registers 1 and 2 with their fields at their bits, and there is no register from 6 on (spec/10_state.md R32 (the numbers), R34, R35 (the tables of fields)). Derived. -/
def Obligations.SampleAndNormRegisterFields : Prop :=
  (∀ s : State,
    (sampleReg s).extractLsb' 0 28 = s.smpRaw ∧ (sampleReg s).getLsbD 28 = s.smpSign ∧
    (sampleReg s).getLsbD 29 = s.smpEoc ∧ (sampleReg s).getLsbD 30 = s.smpHave ∧ (sampleReg s).getLsbD 31 = false ∧
    (normReg s).extractLsb' 0 14 = s.smpNorm ∧ (normReg s).extractLsb' 14 2 = 0#2 ∧
    readReg 1 s = some (sampleReg s) ∧ readReg 2 s = some ((normReg s).setWidth 32) ∧ ∀ n, readReg (n + 6) s = none) ∧
  sampleReg State.reset = 0#32 ∧ normReg State.reset = 0#16

/-- XFERS, LAST_RX and CMD show the counter and the word views of the two frames (R36, R37, R38). -/
def Obligations.CounterAndFrameRegisters : Prop :=
  (∀ s : State,
    readReg 3 s = some s.xfers ∧ readReg 4 s = some s.lastRx.word ∧ readReg 5 s = some s.cmd.word ∧
    (lastRxReg s).extractLsb' 24 8 = s.lastRx.b0 ∧ (lastRxReg s).extractLsb' 0 8 = s.lastRx.b3 ∧
    (cmdReg s).extractLsb' 24 8 = s.cmd.b0) ∧
  readReg 3 State.reset = some 0#32 ∧ readReg 4 State.reset = some 0#32 ∧ readReg 5 State.reset = some 0#32

/-- The result code is the table's function of st and err, and codes 6 and 7 are never produced (R201). -/
def Obligations.ResultCodes : Prop :=
  (∀ s : State, (statusReg s).extractLsb' 13 3 = resultCode s.st s.err ∧ (resultCode s.st s.err).toNat ≤ 5) ∧
  ∀ s : State, s.Inv →
    (s.st = .idle ∨ s.st = .polling → s.err = .none ∧ resultCode s.st s.err = 0#3) ∧
    (s.st = .converged → s.err = .none ∧ resultCode s.st s.err = 1#3) ∧
    (s.st = .timedOut → s.err = .none ∧ resultCode s.st s.err = 2#3) ∧
    (s.st = .failed → s.err = .deviceIo ∧ resultCode s.st s.err = 3#3 ∨
      s.err = .framing ∧ resultCode s.st s.err = 4#3 ∨ s.err = .address ∧ resultCode s.st s.err = 5#3)

/-- The result in a reachable state: the decoding of a final response, the timeout, the error, or none (spec/42_polling_fsm.md R161, spec/41_response_decoder.md R128, R129, spec/70_reset_and_hazards.md R234). Derived. -/
def Obligations.ResultIsDecodedFinalResponse : Prop :=
  ∀ s : State, s.Reachable →
    (∀ sign raw norm, s.result = .sample sign raw norm →
      valid s = true ∧ s.lastRx.b0.getLsbD 7 = false ∧ decodeSample s.lastRx = ⟨false, sign, raw, norm⟩ ∧
      norm = normCenti raw ∧ norm.toNat ≤ 11500) ∧
    (valid s = false → ∀ sign raw norm, s.result ≠ .sample sign raw norm) ∧
    (s.st = .converged → s.result = .sample s.smpSign s.smpRaw s.smpNorm) ∧
    (s.st = .timedOut → s.result = .timeout) ∧
    (s.st = .failed → s.result = .error s.err ∧ (s.err = .deviceIo ∨ s.err = .framing ∨ s.err = .address)) ∧
    (s.st = .idle ∨ s.st = .polling → s.result = .noResult)
end

