-- ==== Sys2Proof/Laws/Bits.lean ====
section
/-! SUPPORT. Laws/Bits.lean: the small lemmas of frames and their fields, so that no proof unfolds a byte. -/

namespace Sys2Proof

@[simp] theorem Frame.ofBytes_bytes (f : Frame) : Frame.ofBytes f.bytes = some f := rfl

@[simp] theorem Frame.length_bytes (f : Frame) : f.bytes.length = 4 := rfl

theorem Frame.bytes_injective {f g : Frame} (h : f.bytes = g.bytes) : f = g := by
  simpa using congrArg Frame.ofBytes h

theorem Frame.ofBytes_eq_some {bytes : List Byte} {f : Frame} :
    Frame.ofBytes bytes = some f ↔ bytes = f.bytes := by
  constructor
  · intro h
    match bytes, h with
    | [_, _, _, _], h => cases h; rfl
  · rintro rfl; rfl

/-- `WELL_FORMED` is exactly the length test of R120. -/
theorem Frame.ofBytes_eq_none {bytes : List Byte} : Frame.ofBytes bytes = none ↔ bytes.length ≠ 4 := by
  match bytes with
  | [] => simp [Frame.ofBytes]
  | [_] => simp [Frame.ofBytes]
  | [_, _] => simp [Frame.ofBytes]
  | [_, _, _] => simp [Frame.ofBytes]
  | [_, _, _, _] => simp [Frame.ofBytes]
  | _ :: _ :: _ :: _ :: _ :: _ => simp [Frame.ofBytes]

theorem Frame.exists_of_length {bytes : List Byte} (h : bytes.length = 4) : ∃ f : Frame, bytes = f.bytes := by
  cases hf : Frame.ofBytes bytes with
  | none => exact absurd h (Frame.ofBytes_eq_none.mp hf)
  | some f => exact ⟨f, Frame.ofBytes_eq_some.mp hf⟩

section
variable (eoc x6 sign x4 : Bool) (d : Raw)

@[simp] theorem responseFrame_eocBit : (responseFrame eoc x6 sign x4 d).eocBit = eoc := by
  simp only [Frame.eocBit, responseFrame, BitVec.getLsbD_append]; simp

@[simp] theorem responseFrame_bit6 : (responseFrame eoc x6 sign x4 d).bit6 = x6 := by
  simp only [Frame.bit6, responseFrame, BitVec.getLsbD_append]; simp

@[simp] theorem responseFrame_signBit : (responseFrame eoc x6 sign x4 d).signBit = sign := by
  simp only [Frame.signBit, responseFrame, BitVec.getLsbD_append]; simp

@[simp] theorem responseFrame_bit4 : (responseFrame eoc x6 sign x4 d).bit4 = x4 := by
  simp only [Frame.bit4, responseFrame, BitVec.getLsbD_append]; simp

@[simp] theorem responseFrame_dField : (responseFrame eoc x6 sign x4 d).dField = d := by
  apply BitVec.eq_of_getLsbD_eq
  intro i hi
  simp only [Frame.dField, responseFrame, BitVec.getLsbD_append, BitVec.getLsbD_extractLsb']
  by_cases h0 : i < 8
  · simp [h0]
  by_cases h1 : i < 16
  · simp [h0, show i - 8 < 8 by omega, show 8 + (i - 8) = i by omega]
  by_cases h2 : i < 24
  · simp [h0, show ¬ i - 8 < 8 by omega, show i - 8 - 8 < 8 by omega, show 16 + (i - 8 - 8) = i by omega]
  · simp [h0, show ¬ i - 8 < 8 by omega, show ¬ i - 8 - 8 < 8 by omega, show i - 8 - 8 - 8 < 4 by omega,
      show 24 + (i - 8 - 8 - 8) = i by omega]

end

/-- What the encoder writes for a channel, byte by byte (R100). -/
theorem commandFrame_eq (a : Chan) : commandFrame a = ⟨0xA0#8 ||| a.setWidth 8, 0#8, 0#8, 0#8⟩ := rfl

/-- ADMIT accepts (R104). -/
theorem admit_eq_true {p : AddrPolicy} {a : Chan} : admits p a = true ↔ p = .truncate ∨ a.toNat ≤ 7 := by
  cases p
  · simp only [admits, Config.numCh, decide_eq_true_eq, reduceCtorEq, false_or]; omega
  · simp [admits]

/-- ADMIT refuses (R104). -/
theorem admit_eq_false {p : AddrPolicy} {a : Chan} : admits p a = false ↔ p = .reject ∧ 8 ≤ a.toNat := by
  cases p
  · simp only [admits, Config.numCh, decide_eq_false_iff_not, true_and]; omega
  · simp [admits]

end Sys2Proof
end

