-- ==== Sys2Proof/Laws/State.lean ====
section
/-! SUPPORT. Laws/State.lean: for each update of the state, what each field it concerns holds after it, true by rfl. -/

namespace Sys2Proof.Machine

section
variable (k : ErrKind) (s : State) (a : Chan) (tx rx : Frame) (m : FsmState)

/-! ### raiseFailed -/

@[simp] theorem raiseFailed_st : (raiseFailed k s).st = .failed := rfl
@[simp] theorem raiseFailed_err : (raiseFailed k s).err = k := rfl
@[simp] theorem raiseFailed_pending : (raiseFailed k s).pending = false := rfl
@[simp] theorem raiseFailed_chan : (raiseFailed k s).chan = s.chan := rfl
@[simp] theorem raiseFailed_cmd : (raiseFailed k s).cmd = s.cmd := rfl
@[simp] theorem raiseFailed_xfers : (raiseFailed k s).xfers = s.xfers := rfl
@[simp] theorem raiseFailed_smpHave : (raiseFailed k s).smpHave = s.smpHave := rfl
@[simp] theorem raiseFailed_smpEoc : (raiseFailed k s).smpEoc = s.smpEoc := rfl
@[simp] theorem raiseFailed_smpSign : (raiseFailed k s).smpSign = s.smpSign := rfl
@[simp] theorem raiseFailed_smpRaw : (raiseFailed k s).smpRaw = s.smpRaw := rfl
@[simp] theorem raiseFailed_smpNorm : (raiseFailed k s).smpNorm = s.smpNorm := rfl
@[simp] theorem raiseFailed_lastRx : (raiseFailed k s).lastRx = s.lastRx := rfl
@[simp] theorem raiseFailed_spiTx : (raiseFailed k s).spiTx = none := rfl
@[simp] theorem raiseFailed_cfg : (raiseFailed k s).cfg = s.cfg := rfl
@[simp] theorem raiseFailed_moves : (raiseFailed k s).moves = s.moves := rfl
@[simp] theorem raiseFailed_draws : (raiseFailed k s).draws = s.draws := rfl

/-! ### clearSample -/

@[simp] theorem clearSample_st : (clearSample s).st = s.st := rfl
@[simp] theorem clearSample_err : (clearSample s).err = s.err := rfl
@[simp] theorem clearSample_pending : (clearSample s).pending = s.pending := rfl
@[simp] theorem clearSample_chan : (clearSample s).chan = s.chan := rfl
@[simp] theorem clearSample_cmd : (clearSample s).cmd = s.cmd := rfl
@[simp] theorem clearSample_xfers : (clearSample s).xfers = s.xfers := rfl
@[simp] theorem clearSample_smpHave : (clearSample s).smpHave = false := rfl
@[simp] theorem clearSample_smpEoc : (clearSample s).smpEoc = false := rfl
@[simp] theorem clearSample_smpSign : (clearSample s).smpSign = false := rfl
@[simp] theorem clearSample_smpRaw : (clearSample s).smpRaw = 0#28 := rfl
@[simp] theorem clearSample_smpNorm : (clearSample s).smpNorm = 0#14 := rfl
@[simp] theorem clearSample_lastRx : (clearSample s).lastRx = Frame.zero := rfl
@[simp] theorem clearSample_spiTx : (clearSample s).spiTx = s.spiTx := rfl
@[simp] theorem clearSample_cfg : (clearSample s).cfg = s.cfg := rfl
@[simp] theorem clearSample_moves : (clearSample s).moves = s.moves := rfl
@[simp] theorem clearSample_draws : (clearSample s).draws = s.draws := rfl

/-! ### spiTransfer -/

@[simp] theorem spiTransfer_st : (spiTransfer tx s).st = s.st := rfl
@[simp] theorem spiTransfer_err : (spiTransfer tx s).err = s.err := rfl
@[simp] theorem spiTransfer_pending : (spiTransfer tx s).pending = s.pending := rfl
@[simp] theorem spiTransfer_chan : (spiTransfer tx s).chan = s.chan := rfl
@[simp] theorem spiTransfer_cmd : (spiTransfer tx s).cmd = s.cmd := rfl
@[simp] theorem spiTransfer_xfers : (spiTransfer tx s).xfers = s.xfers := rfl
@[simp] theorem spiTransfer_smpHave : (spiTransfer tx s).smpHave = s.smpHave := rfl
@[simp] theorem spiTransfer_smpEoc : (spiTransfer tx s).smpEoc = s.smpEoc := rfl
@[simp] theorem spiTransfer_smpSign : (spiTransfer tx s).smpSign = s.smpSign := rfl
@[simp] theorem spiTransfer_smpRaw : (spiTransfer tx s).smpRaw = s.smpRaw := rfl
@[simp] theorem spiTransfer_smpNorm : (spiTransfer tx s).smpNorm = s.smpNorm := rfl
@[simp] theorem spiTransfer_lastRx : (spiTransfer tx s).lastRx = s.lastRx := rfl
@[simp] theorem spiTransfer_spiTx : (spiTransfer tx s).spiTx = some tx := rfl
@[simp] theorem spiTransfer_cfg : (spiTransfer tx s).cfg = s.cfg := rfl
@[simp] theorem spiTransfer_moves : (spiTransfer tx s).moves = s.moves := rfl
@[simp] theorem spiTransfer_draws : (spiTransfer tx s).draws = s.draws := rfl

/-! ### resetBlock -/

@[simp] theorem resetBlock_st : (resetBlock s).st = .idle := rfl
@[simp] theorem resetBlock_err : (resetBlock s).err = .none := rfl
@[simp] theorem resetBlock_pending : (resetBlock s).pending = false := rfl
@[simp] theorem resetBlock_chan : (resetBlock s).chan = 0#4 := rfl
@[simp] theorem resetBlock_cmd : (resetBlock s).cmd = Frame.zero := rfl
@[simp] theorem resetBlock_xfers : (resetBlock s).xfers = 0#32 := rfl
@[simp] theorem resetBlock_smpHave : (resetBlock s).smpHave = false := rfl
@[simp] theorem resetBlock_smpEoc : (resetBlock s).smpEoc = false := rfl
@[simp] theorem resetBlock_smpSign : (resetBlock s).smpSign = false := rfl
@[simp] theorem resetBlock_smpRaw : (resetBlock s).smpRaw = 0#28 := rfl
@[simp] theorem resetBlock_smpNorm : (resetBlock s).smpNorm = 0#14 := rfl
@[simp] theorem resetBlock_lastRx : (resetBlock s).lastRx = Frame.zero := rfl
@[simp] theorem resetBlock_spiTx : (resetBlock s).spiTx = none := rfl
@[simp] theorem resetBlock_cfg : (resetBlock s).cfg = s.cfg := rfl
@[simp] theorem resetBlock_moves : (resetBlock s).moves = s.moves := rfl
@[simp] theorem resetBlock_draws : (resetBlock s).draws = s.draws := rfl

/-! ### clearInvocation -/

@[simp] theorem clearInvocation_st : (clearInvocation a s).st = s.st := rfl
@[simp] theorem clearInvocation_err : (clearInvocation a s).err = s.err := rfl
@[simp] theorem clearInvocation_pending : (clearInvocation a s).pending = false := rfl
@[simp] theorem clearInvocation_chan : (clearInvocation a s).chan = a := rfl
@[simp] theorem clearInvocation_cmd : (clearInvocation a s).cmd = s.cmd := rfl
@[simp] theorem clearInvocation_xfers : (clearInvocation a s).xfers = 0#32 := rfl
@[simp] theorem clearInvocation_smpHave : (clearInvocation a s).smpHave = false := rfl
@[simp] theorem clearInvocation_smpEoc : (clearInvocation a s).smpEoc = false := rfl
@[simp] theorem clearInvocation_smpSign : (clearInvocation a s).smpSign = false := rfl
@[simp] theorem clearInvocation_smpRaw : (clearInvocation a s).smpRaw = 0#28 := rfl
@[simp] theorem clearInvocation_smpNorm : (clearInvocation a s).smpNorm = 0#14 := rfl
@[simp] theorem clearInvocation_lastRx : (clearInvocation a s).lastRx = Frame.zero := rfl
@[simp] theorem clearInvocation_spiTx : (clearInvocation a s).spiTx = none := rfl
@[simp] theorem clearInvocation_cfg : (clearInvocation a s).cfg = s.cfg := rfl
@[simp] theorem clearInvocation_moves : (clearInvocation a s).moves = s.moves := rfl
@[simp] theorem clearInvocation_draws : (clearInvocation a s).draws = s.draws := rfl

/-! ### issueEffect -/

@[simp] theorem issueEffect_st : (issueEffect s).st = s.st := rfl
@[simp] theorem issueEffect_err : (issueEffect s).err = s.err := rfl
@[simp] theorem issueEffect_pending : (issueEffect s).pending = true := rfl
@[simp] theorem issueEffect_chan : (issueEffect s).chan = s.chan := rfl
@[simp] theorem issueEffect_cmd : (issueEffect s).cmd = s.cmd := rfl
@[simp] theorem issueEffect_xfers : (issueEffect s).xfers = countTransfer s.xfers := rfl
@[simp] theorem issueEffect_smpHave : (issueEffect s).smpHave = s.smpHave := rfl
@[simp] theorem issueEffect_smpEoc : (issueEffect s).smpEoc = s.smpEoc := rfl
@[simp] theorem issueEffect_smpSign : (issueEffect s).smpSign = s.smpSign := rfl
@[simp] theorem issueEffect_smpRaw : (issueEffect s).smpRaw = s.smpRaw := rfl
@[simp] theorem issueEffect_smpNorm : (issueEffect s).smpNorm = s.smpNorm := rfl
@[simp] theorem issueEffect_lastRx : (issueEffect s).lastRx = s.lastRx := rfl
@[simp] theorem issueEffect_spiTx : (issueEffect s).spiTx = some s.cmd := rfl
@[simp] theorem issueEffect_cfg : (issueEffect s).cfg = s.cfg := rfl
@[simp] theorem issueEffect_moves : (issueEffect s).moves = s.moves := rfl
@[simp] theorem issueEffect_draws : (issueEffect s).draws = s.draws := rfl

/-! ### recordSample -/

@[simp] theorem recordSample_st : (recordSample rx s).st = s.st := rfl
@[simp] theorem recordSample_err : (recordSample rx s).err = s.err := rfl
@[simp] theorem recordSample_pending : (recordSample rx s).pending = false := rfl
@[simp] theorem recordSample_chan : (recordSample rx s).chan = s.chan := rfl
@[simp] theorem recordSample_cmd : (recordSample rx s).cmd = s.cmd := rfl
@[simp] theorem recordSample_xfers : (recordSample rx s).xfers = s.xfers := rfl
@[simp] theorem recordSample_smpHave : (recordSample rx s).smpHave = true := rfl
@[simp] theorem recordSample_smpEoc : (recordSample rx s).smpEoc = (decodeSample rx).eoc := rfl
@[simp] theorem recordSample_smpSign : (recordSample rx s).smpSign = (decodeSample rx).sign := rfl
@[simp] theorem recordSample_smpRaw : (recordSample rx s).smpRaw = (decodeSample rx).raw := rfl
@[simp] theorem recordSample_smpNorm : (recordSample rx s).smpNorm = (decodeSample rx).norm := rfl
@[simp] theorem recordSample_lastRx : (recordSample rx s).lastRx = rx := rfl
@[simp] theorem recordSample_spiTx : (recordSample rx s).spiTx = none := rfl
@[simp] theorem recordSample_cfg : (recordSample rx s).cfg = s.cfg := rfl
@[simp] theorem recordSample_moves : (recordSample rx s).moves = s.moves := rfl
@[simp] theorem recordSample_draws : (recordSample rx s).draws = s.draws := rfl

/-! ### enterState -/

@[simp] theorem enterState_st : (enterState m s).st = m := rfl
@[simp] theorem enterState_err : (enterState m s).err = s.err := rfl
@[simp] theorem enterState_pending : (enterState m s).pending = s.pending := rfl
@[simp] theorem enterState_chan : (enterState m s).chan = s.chan := rfl
@[simp] theorem enterState_cmd : (enterState m s).cmd = s.cmd := rfl
@[simp] theorem enterState_xfers : (enterState m s).xfers = s.xfers := rfl
@[simp] theorem enterState_smpHave : (enterState m s).smpHave = s.smpHave := rfl
@[simp] theorem enterState_smpEoc : (enterState m s).smpEoc = s.smpEoc := rfl
@[simp] theorem enterState_smpSign : (enterState m s).smpSign = s.smpSign := rfl
@[simp] theorem enterState_smpRaw : (enterState m s).smpRaw = s.smpRaw := rfl
@[simp] theorem enterState_smpNorm : (enterState m s).smpNorm = s.smpNorm := rfl
@[simp] theorem enterState_lastRx : (enterState m s).lastRx = s.lastRx := rfl
@[simp] theorem enterState_spiTx : (enterState m s).spiTx = s.spiTx := rfl
@[simp] theorem enterState_cfg : (enterState m s).cfg = s.cfg := rfl
@[simp] theorem enterState_moves : (enterState m s).moves = s.moves := rfl
@[simp] theorem enterState_draws : (enterState m s).draws = s.draws := rfl

end

end Sys2Proof.Machine
end

