-- ==== Sys2Proof/Laws/Ops.lean ====
section
/-! SUPPORT. Laws/Ops.lean: for each shared operation one lemma that says all it can do, and for exec and fetch their
inversions; later proofs cite these and do not unfold the operations. -/

namespace Sys2Proof.Machine

/-- The bound is reached (R157): `MAX_TRANSFERS` is a number and the counter is at it or above. -/
theorem boundReached_eq_true {m : MaxTransfers} {x : BitVec 32} :
    boundReached m x = true ↔ ∃ n, m = .bounded n ∧ n.toNat ≤ x.toNat := by
  cases m <;> simp [boundReached]

theorem boundReached_eq_false {m : MaxTransfers} {x : BitVec 32} :
    boundReached m x = false ↔ ∀ n, m = .bounded n → x.toNat < n.toNat := by
  cases m <;> simp [boundReached]

/-- The counter after one more transfer, as a number (R27). -/
theorem countTransfer_toNat (x : BitVec 32) : (countTransfer x).toNat = min (x.toNat + 1) (2 ^ 32 - 1) := by
  simp only [countTransfer, Config.cntW, BitVec.toNat_ofNat]
  omega

/-- `norm_centi` with the constants of R6 put in, as R127 writes it. -/
theorem normCenti_eq (raw : Raw) :
    normCenti raw = BitVec.ofNat 14 ((23000 * raw.toNat + 268435455) / 536870910) := rfl

theorem issueEnabled_iff (s : State) : issueEnabled s = true ↔ s.st = .polling ∧ s.pending = false := by
  simp [issueEnabled]

theorem issueStep_next {s t : State} :
    issueStep s = .next t ↔ s.st = .polling ∧ s.pending = false ∧ t = issueEffect s := by
  unfold issueStep
  split
  · next h =>
    obtain ⟨h1, h2⟩ := (issueEnabled_iff s).mp h
    simp [h1, h2, eq_comm]
  · next h =>
    simp only [reduceCtorEq, false_iff]
    rintro ⟨h1, h2, -⟩
    exact h ((issueEnabled_iff s).mpr ⟨h1, h2⟩)

theorem sendFrame_next {tx : Frame} {s t : State} :
    sendFrame tx s = .next t ↔ s.cmd = tx ∧ s.st = .polling ∧ s.pending = false ∧ t = issueEffect s := by
  unfold sendFrame
  split
  · next h => simp [h, issueStep_next]
  · next h => simp [h]

theorem completeStep_next {ans : Answer} {s t : State} :
    completeStep ans s = .next t ↔ s.pending = true ∧ t = completeEffect ans s := by
  unfold completeStep
  split
  · next h => simp [h, eq_comm]
  · next h => simp [h]

/-- The three cases of an answer (R159): an I/O error, a byte sequence of the wrong length, a frame. -/
theorem completeEffect_cases (ans : Answer) (s : State) :
    (ans = .ioError ∧ completeEffect ans s = raiseFailed .deviceIo s) ∨
    (∃ bytes, ans = .ok bytes ∧ bytes.length ≠ 4 ∧ completeEffect ans s = raiseFailed .framing s) ∨
    (∃ rx : Frame, ans = .ok rx.bytes ∧
      completeEffect ans s = enterState (stateAfter (decodeSample rx).eoc s) (recordSample rx s)) := by
  cases ans with
  | ioError => exact .inl ⟨rfl, rfl⟩
  | ok bytes =>
    cases hf : Frame.ofBytes bytes with
    | none => exact .inr (.inl ⟨bytes, rfl, Frame.ofBytes_eq_none.mp hf, by simp [completeEffect, hf]⟩)
    | some rx =>
      refine .inr (.inr ⟨rx, ?_, by simp [completeEffect, hf]⟩)
      rw [Frame.ofBytes_eq_some.mp hf]

/-- The three cases of START (R151, R152): ignored, begun, refused with `ADDRESS`. -/
theorem startInvocation_cases (a : Chan) (s : State) :
    (s.st = .polling ∧ startInvocation a s = s) ∨
    (s.st ≠ .polling ∧ admits s.cfg.addrPolicy a = true ∧
      startInvocation a s = { clearInvocation a s with cmd := commandFrame a, err := .none, st := .polling }) ∨
    (s.st ≠ .polling ∧ admits s.cfg.addrPolicy a = false ∧
      startInvocation a s = raiseFailed .address { clearInvocation a s with cmd := Frame.zero }) := by
  by_cases hp : s.st = .polling
  · exact .inl ⟨hp, by simp [startInvocation, hp]⟩
  cases ha : admits s.cfg.addrPolicy a
  · refine .inr (.inr ⟨hp, rfl, ?_⟩)
    unfold startInvocation
    split
    · contradiction
    · simp [ha]
  · refine .inr (.inl ⟨hp, rfl, ?_⟩)
    unfold startInvocation
    split
    · contradiction
    · simp [ha]

/-- Where a recorded response leaves the FSM (R156, R157, R158). -/
theorem stateAfter_cases (eoc : Bool) (s : State) :
    (eoc = false ∧ stateAfter eoc s = .converged) ∨
    (eoc = true ∧ boundReached s.cfg.maxTransfers s.xfers = true ∧ stateAfter eoc s = .timedOut) ∨
    (eoc = true ∧ boundReached s.cfg.maxTransfers s.xfers = false ∧ stateAfter eoc s = s.st) := by
  cases eoc
  · exact .inl ⟨rfl, rfl⟩
  · cases hb : boundReached s.cfg.maxTransfers s.xfers <;> simp [stateAfter, hb]

/-- Everything an instruction can do when it answers a next state: it is one of the four steps of R150. -/
theorem exec_cases {i : Instr} {s t : State} (h : exec i s = .next t) :
    (i = .reset ∧ t = resetBlock s) ∨
    (∃ a, i = .start a ∧ t = startInvocation a s) ∨
    ((i = .issue ∨ ∃ a, (i = .read a ∨ i = .readAlias a) ∧ s.cmd = commandFrame a) ∧
      s.st = .polling ∧ s.pending = false ∧ t = issueEffect s) ∨
    (∃ ans, s.pending = true ∧ t = completeEffect ans s ∧ (∀ a, i ≠ .start a) ∧ i ≠ .reset) := by
  cases i with
  | read a =>
    obtain ⟨hc, h⟩ := sendFrame_next.mp h
    exact .inr (.inr (.inl ⟨.inr ⟨a, .inl rfl, hc⟩, h⟩))
  | readAlias a =>
    obtain ⟨hc, h⟩ := sendFrame_next.mp h
    exact .inr (.inr (.inl ⟨.inr ⟨a, .inr rfl, hc⟩, h⟩))
  | rspBusy x6 x4 sign d =>
    obtain ⟨hp, ht⟩ := completeStep_next.mp h
    exact .inr (.inr (.inr ⟨_, hp, ht, by simp⟩))
  | rspDataPos x6 x4 d =>
    obtain ⟨hp, ht⟩ := completeStep_next.mp h
    exact .inr (.inr (.inr ⟨_, hp, ht, by simp⟩))
  | rspDataNeg x6 x4 d =>
    obtain ⟨hp, ht⟩ := completeStep_next.mp h
    exact .inr (.inr (.inr ⟨_, hp, ht, by simp⟩))
  | reset =>
    have h : Host.Outcome.next (resetBlock s) = .next t := h
    exact .inl ⟨rfl, by simpa using h.symm⟩
  | start a =>
    have h : Host.Outcome.next (startInvocation a s) = .next t := h
    exact .inr (.inl ⟨a, rfl, by simpa using h.symm⟩)
  | issue => exact .inr (.inr (.inl ⟨.inl rfl, issueStep_next.mp h⟩))
  | complete ans =>
    obtain ⟨hp, ht⟩ := completeStep_next.mp h
    exact .inr (.inr (.inr ⟨ans, hp, ht, by simp⟩))

/-- Where a move comes from: the first offer, else the FSM's ISSUE, else the SPI agent's free answer. -/
theorem fetch_cases {s s' : State} {r : Except DecodeError Instr} (h : fetch s = some (r, s')) :
    (∃ o rest, s.moves = o :: rest ∧ r = decode o ∧ s' = { s with moves := rest }) ∨
    (s.moves = [] ∧ s.st = .polling ∧ s.pending = false ∧ r = .ok .issue ∧ s' = s) ∨
    (s.moves = [] ∧ s.pending = true ∧ r = .ok (.complete (Config.spiAnswer s.draws)) ∧
      s' = { s with draws := s.draws + 1 }) := by
  unfold fetch at h
  split at h
  · next o rest hm =>
    simp only [Option.some.injEq, Prod.mk.injEq] at h
    exact .inl ⟨o, rest, hm, h.1.symm, h.2.symm⟩
  · next hm =>
    split at h
    · next he =>
      simp only [Option.some.injEq, Prod.mk.injEq] at h
      obtain ⟨h1, h2⟩ := (issueEnabled_iff s).mp he
      exact .inr (.inl ⟨hm, h1, h2, h.1.symm, h.2.symm⟩)
    · split at h
      · next hp =>
        simp only [Option.some.injEq, Prod.mk.injEq] at h
        exact .inr (.inr ⟨hm, hp, h.1.symm, h.2.symm⟩)
      · cases h

/-- A step that answers a next state runs a fetched and decoded instruction. -/
theorem step_next {s t : State} (h : step s = .next t) :
    ∃ i s', fetch s = some (.ok i, s') ∧ exec i s' = .next t := by
  unfold step at h
  split at h
  · cases h
  · next i s' hf => exact ⟨i, s', hf, h⟩
  · cases h

end Sys2Proof.Machine
end

