-- ==== Sys2Proof/Laws/PerInstr.lean ====
section
/-! SUPPORT. Laws/PerInstr.lean: facts about every instruction as text, one lemma for each constructor. -/

namespace Sys2Proof.Laws

/-- How many bytes the frame of an instruction moves; the steps without a frame of their own move none. -/
def FrameLength.bytesOf : Offer → Option (List Byte)
  | .outbound bytes => some bytes
  | .inbound (.ok bytes) => some bytes
  | .inbound .ioError => none
  | .hostReset => none
  | .hostStart _ => none
  | .fsmIssue => none
  | .spiComplete _ => none

/-- Every frame an instruction is encoded as has `FRAME_LEN` bytes (R70). -/
def FrameLength.Statement (i : Instr) : Prop :=
  ∀ bytes, FrameLength.bytesOf (encode i) = some bytes → bytes.length = Config.frameLen

theorem FrameLength.of_frame {f : Frame} {bytes : List Byte} (h : some f.bytes = some bytes) :
    bytes.length = Config.frameLen := by
  cases h; rfl

theorem FrameLength.read (a : Chan) : FrameLength.Statement (.read a) :=
  fun _ h => FrameLength.of_frame h

theorem FrameLength.readAlias (a : Chan) : FrameLength.Statement (.readAlias a) :=
  fun _ h => FrameLength.of_frame h

theorem FrameLength.rspBusy (x6 x4 sign : Bool) (d : Raw) : FrameLength.Statement (.rspBusy x6 x4 sign d) :=
  fun _ h => FrameLength.of_frame h

theorem FrameLength.rspDataPos (x6 x4 : Bool) (d : Raw) : FrameLength.Statement (.rspDataPos x6 x4 d) :=
  fun _ h => FrameLength.of_frame h

theorem FrameLength.rspDataNeg (x6 x4 : Bool) (d : Raw) : FrameLength.Statement (.rspDataNeg x6 x4 d) :=
  fun _ h => FrameLength.of_frame h

theorem FrameLength.reset : FrameLength.Statement .reset :=
  fun _ h => nomatch h

theorem FrameLength.start (a : Chan) : FrameLength.Statement (.start a) :=
  fun _ h => nomatch h

theorem FrameLength.issue : FrameLength.Statement .issue :=
  fun _ h => nomatch h

theorem FrameLength.complete (ans : Answer) : FrameLength.Statement (.complete ans) :=
  fun _ h => nomatch h

end Sys2Proof.Laws
end

