-- ==== Sys2Proof/Laws/Run.lean ====
section
/-! SUPPORT. Laws/Run.lean: the host's run, one step at a time. -/

namespace Sys2Proof.Machine

/-- A run of no step stays where it is. -/
theorem run_zero (s : State) : Host.Core.run Sys2Proof.core 0 s = .next s := rfl

/-- A run of any machine whose first step answers `t` goes on from `t`. -/
theorem run_succ_of_core_next {M : Host.Core} {s t : M.State} (k : Nat) (h : M.step s = .next t) :
    M.run (k + 1) s = M.run k t := by
  have e : M.run (k + 1) s =
      (match M.step s with | .next u => M.run k u | .fault r => .fault r | .refused r => .refused r) := rfl
  rw [e, h]

/-- A run of this machine whose first step answers `t` goes on from `t`. -/
theorem run_succ_of_next {s t : State} (k : Nat) (h : step s = .next t) :
    Host.Core.run Sys2Proof.core (k + 1) s = Host.Core.run Sys2Proof.core k t :=
  run_succ_of_core_next (M := Sys2Proof.core) k h

end Sys2Proof.Machine
end

