-- ==== Sys2Proof/Laws/Safety.lean ====
section
/-! SUPPORT. Laws/Safety.lean: reading an outcome, and a check that decides whether a concrete state is good. -/

namespace Sys2Proof.Machine

theorem nextOf_eq_some {o : Host.Outcome State Fault Refusal} {t : State} : nextOf o = some t ↔ o = .next t := by
  cases o <;> simp [nextOf]

theorem refusalOf_eq_some {o : Host.Outcome State Fault Refusal} {r : Refusal} :
    refusalOf o = some r ↔ o = .refused r := by
  cases o <;> simp [refusalOf]

/-- Clause (f) of R160 as a check. -/
def State.countOk (s : State) : Bool :=
  match s.cfg.maxTransfers with
  | .unbounded => true
  | .bounded n => s.xfers.toNat ≤ n.toNat

/-- The clauses of `State.Inv`, each decidable. -/
abbrev State.InvCheck (s : State) : Prop :=
  (s.pending = true → s.st = .polling) ∧ (s.err ≠ .none ↔ s.st = .failed) ∧
  (s.begun → s.cmd = commandFrame s.chan ∧ admits s.cfg.addrPolicy s.chan = true) ∧
  (s.st = .converged → s.smpHave = true ∧ s.smpEoc = false ∧ 1 ≤ s.xfers.toNat) ∧
  (s.st = .timedOut → s.smpHave = true ∧ s.smpEoc = true ∧ s.cfg.maxTransfers = .bounded s.xfers) ∧
  s.countOk = true ∧ (s.st = .idle → s = resetBlock s) ∧
  (s.err = .address → s.xfers = 0#32 ∧ s.cmd = Frame.zero ∧ s.smpHave = false) ∧
  (s.st = .polling → s.pending = false → boundReached s.cfg.maxTransfers s.xfers = false)

/-- The clauses of `State.Coherent`, each decidable. -/
abbrev State.CoherentCheck (s : State) : Prop :=
  s.cfg.maxTransfers.legal = true ∧ (s.spiTx = if s.pending then some s.cmd else none) ∧
  (s.pending = true → 1 ≤ s.xfers.toNat) ∧ (s.smpHave = true → 1 ≤ s.xfers.toNat) ∧
  (s.smpHave = true → decodeSample s.lastRx = ⟨s.smpEoc, s.smpSign, s.smpRaw, s.smpNorm⟩) ∧
  (s.smpHave = false →
    s.smpEoc = false ∧ s.smpSign = false ∧ s.smpRaw = 0#28 ∧ s.smpNorm = 0#14 ∧ s.lastRx = Frame.zero) ∧
  (s.st = .polling → s.smpHave = true → s.smpEoc = true) ∧
  (s.err = .deviceIo ∨ s.err = .framing →
    s.cmd = commandFrame s.chan ∧ admits s.cfg.addrPolicy s.chan = true ∧ 1 ≤ s.xfers.toNat) ∧
  (s.err = .address → admits s.cfg.addrPolicy s.chan = false)

/-- A concrete state is good when the two checks, which decide, hold. -/
theorem State.good_of_check {s : State} (hi : s.InvCheck) (hc : s.CoherentCheck) : s.Good := by
  obtain ⟨a, b, c, d, e, f, g, h, i⟩ := hi
  obtain ⟨j, k, l, m, n, o, p, q, r⟩ := hc
  refine ⟨⟨a, b, c, d, e, ?_, g, h, i⟩, ⟨j, k, l, m, n, o, p, q, r⟩⟩
  intro n hn
  simpa [State.countOk, hn] using f

/-- The table of R201 has the codes 0 to 5 alone. -/
theorem codeOfResult_toNat_le (r : ResultCode) : (codeOfResult r).toNat ≤ 5 := by
  cases r <;> decide

end Sys2Proof.Machine
end

