-- ==== Sys2Proof/Tests/Slice0.lean ====
section
/-! SUPPORT. Tests/Slice0.lean: the model's own tests. Expected values are those of spec/95_test_vectors.md (named in each
comment) or written out by hand from the rule cited; the last part shows for every statement with hypotheses a concrete
state that meets them. -/

namespace Sys2Proof.Tests

open Sys2Proof.Machine

/-! ### Helpers -/

/-- POLLING on channel `a` after `x` transfers, with no transfer pending. -/
def polling (m : MaxTransfers) (a : Chan) (x : BitVec 32) : State :=
  { State.reset with st := .polling, chan := a, cmd := commandFrame a, xfers := x, cfg := ⟨.reject, m⟩ }

/-- The same with a transfer pending. -/
def waiting (m : MaxTransfers) (a : Chan) (x : BitVec 32) : State :=
  { polling m a x with pending := true, spiTx := some (commandFrame a) }

/-- The state with `ADDR_POLICY = Truncate`. -/
def truncating (s : State) : State := { s with cfg := ⟨.truncate, s.cfg.maxTransfers⟩ }

/-- One step, and one field or register of what it leaves. -/
def after {α : Type} (i : Instr) (s : State) (f : State → α) : Option α := (nextOf (exec i s)).map f

/-! ### Well-formedness: each check refuses an ill-formed term -/

theorem test_read_channel_8_ill_formed : (Instr.read 8#4).wellFormed = false := by decide
theorem test_read_channel_7_well_formed : (Instr.read 7#4).wellFormed = true := by decide
theorem test_readAlias_channel_7_ill_formed : (Instr.readAlias 7#4).wellFormed = false := by decide
theorem test_readAlias_channel_8_well_formed : (Instr.readAlias 8#4).wellFormed = true := by decide

/-! ### Decoding: words written out bit by bit from R71 and R73 -/

/-- 1010_0101 and three zero bytes (V1). -/
theorem test_decode_read_5 :
    decode (.outbound [0b10100101#8, 0b00000000#8, 0b00000000#8, 0b00000000#8]) = .ok (.read 5#4) := by decide

/-- 1010_1111 and three zero bytes (V1). -/
theorem test_decode_readAlias_15 :
    decode (.outbound [0b10101111#8, 0b00000000#8, 0b00000000#8, 0b00000000#8]) = .ok (.readAlias 15#4) := by decide

/-- EOC 1, bit 6 = 0, SIGN 1, bit 4 = 0, D = 0x3123456 (V2). -/
theorem test_decode_rspBusy :
    decode (.inbound (.ok [0b10100011#8, 0b00010010#8, 0b00110100#8, 0b01010110#8])) =
      .ok (.rspBusy false false true 0x3123456#28) := by decide

/-- EOC 0, bit 6 = 1, SIGN 1, bit 4 = 0, D = 0xABCDEF0 (R73). -/
theorem test_decode_rspDataPos :
    decode (.inbound (.ok [0b01101010#8, 0b10111100#8, 0b11011110#8, 0b11110000#8])) =
      .ok (.rspDataPos true false 0xABCDEF0#28) := by decide

/-- EOC 0, bit 6 = 0, SIGN 0, bit 4 = 1, D = 0x0001234 (R73). -/
theorem test_decode_rspDataNeg :
    decode (.inbound (.ok [0b00010000#8, 0b00000000#8, 0b00010010#8, 0b00110100#8])) =
      .ok (.rspDataNeg false true 0x0001234#28) := by decide

theorem test_decode_reset : decode .hostReset = .ok .reset := by decide
theorem test_decode_start : decode (.hostStart 9#4) = .ok (.start 9#4) := by decide
theorem test_decode_issue : decode .fsmIssue = .ok .issue := by decide
theorem test_decode_complete : decode (.spiComplete .ioError) = .ok (.complete .ioError) := by decide

/-- A response of 5 bytes is no frame of an RSP row but a COMPLETE (R75, R155). -/
theorem test_decode_long_response :
    decode (.inbound (.ok [0x80#8, 0#8, 0#8, 0#8, 0#8])) = .ok (.complete (.ok [0x80#8, 0#8, 0#8, 0#8, 0#8])) := by decide

/-- Byte 0 bit 6 set (R71). -/
theorem test_decode_command_bit6 : decode (.outbound [0xE0#8, 0#8, 0#8, 0#8]) = .error .notACommand := by decide
theorem test_decode_command_3_bytes : decode (.outbound [0xA0#8, 0#8, 0#8]) = .error .commandLength := by decide

/-- The same bytes on the two lines (log entry 2). -/
theorem test_lines_tell_formats_apart :
    decode (.outbound [0xA3#8, 0#8, 0#8, 0#8]) = .ok (.read 3#4) ∧
    decode (.inbound (.ok [0xA3#8, 0#8, 0#8, 0#8])) = .ok (.rspBusy false false true 0x3000000#28) := by decide

/-- The words of spec/opcode_table.json as the host numbers them. -/
theorem test_table_words :
    decodeTableWord 32 0xA7000000 = some (.read 7#4) ∧ decodeTableWord 32 0xA8000000 = some (.readAlias 8#4) ∧
    decodeTableWord 32 0x80000000 = some (.rspBusy false false false 0#28) ∧
    decodeTableWord 32 0x20000000 = some (.rspDataPos false false 0#28) ∧
    decodeTableWord 32 0 = some (.rspDataNeg false false 0#28) ∧ decodeTableWord 0 0 = none := by decide

/-- A shorter word has zeros above its bits; a number that does not fit its bits is no word (log entry 17). -/
theorem test_short_table_words :
    decodeTableWord 8 0xA3 = some (.rspDataNeg false false 0xA3#28) ∧ decodeTableWord 8 0x100 = none := by decide

/-- A placed word runs as the first instruction after reset. -/
theorem test_placed_words_run :
    (nextOf (step (State.reset.withFetchWord 32 0xA7000000))).map (·.spiTx) = some (some ⟨0xA7#8, 0#8, 0#8, 0#8⟩) ∧
    (nextOf (step (State.reset.withFetchWord 32 0xA8000000))).map (·.spiTx) = some (some ⟨0xA8#8, 0#8, 0#8, 0#8⟩) ∧
    (nextOf (step (State.reset.withFetchWord 32 0x80000000))).map (·.smpEoc) = some true ∧
    (nextOf (step (State.reset.withFetchWord 32 0x20000000))).map (·.st) = some .converged ∧
    (nextOf (step (State.reset.withFetchWord 32 0))).map (·.smpRaw) = some 0x0FFFFFFF#28 := by decide

/-! ### DECODE and norm_centi: the vectors of V2 and V3 -/

theorem test_decode_W6 : decodeSample ⟨0x00#8, 0x00#8, 0x00#8, 0x00#8⟩ = ⟨false, false, 0x0FFFFFFF#28, 11500#14⟩ := by decide
theorem test_decode_W7 : decodeSample ⟨0x20#8, 0xFF#8, 0xFF#8, 0xFF#8⟩ = ⟨false, true, 0x00FFFFFF#28, 719#14⟩ := by decide
theorem test_decode_W3 : decodeSample ⟨0x0A#8, 0xBC#8, 0xDE#8, 0xF0#8⟩ = ⟨false, false, 0x0543210F#28, 3782#14⟩ := by decide
theorem test_decode_busy_positive :
    decodeSample ⟨0xA3#8, 0x12#8, 0x34#8, 0x56#8⟩ = ⟨true, true, 0x3123456#28, 2207#14⟩ := by decide
theorem test_decode_ignored_bits : decodeSample ⟨0x70#8, 0#8, 0#8, 0#8⟩ = ⟨false, true, 0#28, 0#14⟩ := by decide
theorem test_normCenti_rounds :
    normCenti 11671#28 = 0#14 ∧ normCenti 11672#28 = 1#14 ∧ normCenti 35013#28 = 1#14 ∧ normCenti 35014#28 = 2#14 ∧
    normCenti 0x8000000#28 = 5750#14 ∧ normCenti 0xFFFFFFE#28 = 11500#14 := by decide

/-! ### One step of each instruction: the vectors of V4 to V6 and of the programs -/

/-- P1, step 3: the frame A3 00 00 00 goes out. -/
theorem test_read_sends :
    after (.read 3#4) (polling .unbounded 3#4 0#32) (fun t => (t.spiTx, t.pending, t.xfers)) =
      some (some ⟨0xA3#8, 0#8, 0#8, 0#8⟩, true, 1#32) := by decide
theorem test_read_other_channel_refused :
    refusalOf (exec (.read 2#4) (polling .unbounded 3#4 0#32)) = some .frameNotLatched := by decide

/-- P5, step 3: the frame A9 00 00 00 goes out under Truncate. -/
theorem test_readAlias_sends :
    after (.readAlias 9#4) (truncating (polling (.bounded 1#32) 9#4 0#32)) (fun t => (t.spiTx, statusReg t)) =
      some (some ⟨0xA9#8, 0#8, 0#8, 0#8⟩, 0x00001321#32) := by decide

/-- P1, step 6. -/
theorem test_rspBusy_retries :
    after (.rspBusy false false true 0x3123456#28) (waiting (.bounded 5#32) 3#4 2#32)
      (fun t => (statusReg t, sampleReg t, normReg t)) = some (0x00000621#32, 0x73123456#32, 2207#16) := by decide

/-- P2, step 6. -/
theorem test_rspBusy_times_out :
    after (.rspBusy true true true 0xFFFFFFF#28) (waiting (.bounded 2#32) 6#4 2#32)
      (fun t => (statusReg t, sampleReg t, lastRxReg t)) = some (0x00004C43#32, 0x7FFFFFFF#32, 0xFFFFFFFF#32) := by decide

/-- P1, step 8. -/
theorem test_rspDataPos_converges :
    after (.rspDataPos false false 0xABCDEF0#28) (waiting (.bounded 5#32) 3#4 3#32)
      (fun t => (statusReg t, sampleReg t, normReg t, lastRxReg t)) =
      some (0x000026C2#32, 0x5ABCDEF0#32, 7718#16, 0x2ABCDEF0#32) := by decide

/-- F14: convergence is tested before the bound. -/
theorem test_rspDataNeg_before_bound :
    after (.rspDataNeg false false 0#28) (waiting (.bounded 3#32) 5#4 3#32) (fun t => (t.st, sampleReg t)) =
      some (.converged, 0x4FFFFFFF#32) := by decide

/-- V6. -/
theorem test_reset_while_pending :
    after .reset (waiting .unbounded 1#4 1#32) (fun t => (statusReg t, t.cmd, t.spiTx)) =
      some (0#32, Frame.zero, none) := by decide

/-- P3, step 2. -/
theorem test_start_9_refused :
    after (.start 9#4) State.reset (fun t => (statusReg t, cmdReg t)) = some (0x0000B25C#32, 0#32) := by decide

/-- F4. -/
theorem test_start_while_polling :
    after (.start 2#4) (polling .unbounded 4#4 1#32) (fun t => (t.chan, t.cmd.b0)) = some (4#4, 0xA4#8) := by decide

/-- F7. -/
theorem test_issue_saturates :
    after .issue (polling .unbounded 4#4 0xFFFFFFFF#32) (fun t => (t.pending, t.xfers)) =
      some (true, 0xFFFFFFFF#32) := by decide
theorem test_issue_in_idle_refused : refusalOf (exec .issue State.reset) = some .issueNotEnabled := by decide

/-- F10: the busy first byte is never read. -/
theorem test_complete_5_bytes :
    after (.complete (.ok [0x80#8, 0#8, 0#8, 0#8, 0#8])) (waiting (.bounded 3#32) 7#4 1#32)
      (fun t => (statusReg t, sampleReg t, lastRxReg t)) = some (0x00008E54#32, 0#32, 0#32) := by decide

/-- P3, step 8. -/
theorem test_complete_io_error :
    after (.complete .ioError) (waiting .unbounded 2#4 1#32) (fun t => (statusReg t, t.xfers)) =
      some (0x0000644C#32, 1#32) := by decide

/-! ### step -/

theorem test_step_waits_for_host : step State.reset = .fault .awaitsHost := rfl
theorem test_step_issues_by_itself : (nextOf (step (polling .unbounded 3#4 0#32))).map (·.pending) = some true := by decide
theorem test_step_refuses_bad_bytes :
    refusalOf (step { State.reset with moves := [.outbound [0xA0#8, 0#8, 0#8, 1#8]] }) =
      some (.undecodable .notACommand) := by decide

/-! ### Witnesses: for each statement with hypotheses, states and operands that meet them together -/

/-- CONVERGED on channel 3 with the response 2A BC DE F0 (P1). -/
def doneState : State :=
  { polling (.bounded 5#32) 3#4 3#32 with
    st := .converged, smpHave := true, smpSign := true, smpRaw := 0xABCDEF0#28, smpNorm := 7718#14,
    lastRx := ⟨0x2A#8, 0xBC#8, 0xDE#8, 0xF0#8⟩ }

/-- FAILED with ADDRESS after START 9 (P3). -/
def refusedState : State := { State.reset with st := .failed, err := .address, chan := 9#4 }

/-- FAILED with DEVICE_IO on channel 2 after one transfer (P3). -/
def deviceState : State := { polling .unbounded 2#4 1#32 with st := .failed, err := .deviceIo }

/-- FAILED with FRAMING on channel 2 after one transfer (P3). -/
def framingState : State := { polling .unbounded 2#4 1#32 with st := .failed, err := .framing }

/-- TIMED_OUT on channel 6 with the last response FF FF FF FF (P2). -/
def timedOutState : State :=
  { polling (.bounded 2#32) 6#4 2#32 with
    st := .timedOut, smpHave := true, smpEoc := true, smpSign := true, smpRaw := 0xFFFFFFF#28, smpNorm := 11500#14,
    lastRx := ⟨0xFF#8, 0xFF#8, 0xFF#8, 0xFF#8⟩ }

theorem good_polling : (polling (.bounded 3#32) 7#4 2#32).Good := State.good_of_check (by decide) (by decide)
theorem good_waiting : (waiting (.bounded 3#32) 7#4 3#32).Good := State.good_of_check (by decide) (by decide)
theorem good_waiting_alias : (truncating (waiting .unbounded 8#4 1#32)).Good := State.good_of_check (by decide) (by decide)
theorem good_done : doneState.Good := State.good_of_check (by decide) (by decide)
theorem good_refused : refusedState.Good := State.good_of_check (by decide) (by decide)
theorem good_device : deviceState.Good := State.good_of_check (by decide) (by decide)
theorem good_framing : framingState.Good := State.good_of_check (by decide) (by decide)
theorem good_timedOut : timedOutState.Good := State.good_of_check (by decide) (by decide)

/-- IDLE with parameters and an offered move other than those of State.reset. -/
def idleState : State := { State.reset with cfg := ⟨.truncate, .bounded 1#32⟩, moves := [.hostReset], draws := 4 }
theorem good_idle : idleState.Good := State.good_of_check (by decide) (by decide)

theorem witness_CommandFrameWord :
    (7#4).toNat < 8 ∧ (truncating doneState).st ≠ .polling ∧ (truncating doneState).cfg.addrPolicy = .truncate := by decide
theorem witness_EncodeBytes : (7#4).toNat < 8 ∧ (0#4).toNat < 8 := by decide
theorem witness_WordViewFields :
    (Frame.mk 0x20#8 0#8 0#8 1#8).word &&& 0xAFFFFFFF#32 = (Frame.mk 0x70#8 0#8 0#8 1#8).word &&& 0xAFFFFFFF#32 := by decide
theorem witness_DecodeEncodeRoundTrip :
    (Instr.read 7#4).wellFormed = true ∧ (Instr.readAlias 8#4).wellFormed = true := by decide
theorem witness_EncodeDecodeRoundTrip :
    decode (.outbound [0xA8#8, 0#8, 0#8, 0#8]) = .ok (.readAlias 8#4) ∧ ([0xA0#8, 0#8, 0#8] : List Byte).length ≠ 4 ∧
    ([0xA0#8, 0#8, 0#8, 0#8, 0#8] : List Byte).length ≠ 4 := by decide
theorem witness_ResponseRowsPartition :
    (0x80#8).getLsbD 7 = true ∧ ((0x7F#8).getLsbD 7 = false ∧ (0x7F#8).getLsbD 5 = true) ∧
    (0x5F#8).getLsbD 7 = false ∧ (0x5F#8).getLsbD 5 = false := by decide
theorem witness_CommandDecodeIsExact : ∀ a : Chan, (Frame.mk 0xA0#8 0#8 0#8 1#8) ≠ commandFrame a := by decide
theorem witness_DecoderLaws :
    (0xDF#8).getLsbD 5 = false ∧ 0x20#8 &&& 0xAF#8 = 0x70#8 &&& 0xAF#8 ∧ 0x20#8 &&& 0x7F#8 = 0xA0#8 &&& 0x7F#8 := by decide
theorem witness_NormCentiRoundsToNearest :
    normCenti 11672#28 = 1#14 ∧ normCenti 35014#28 = 2#14 ∧ (11671#28).toNat ≤ (11672#28).toNat := by decide
theorem witness_ResetSetsEveryField : idleState.Inv ∧ idleState.st = .idle := ⟨good_idle.inv, rfl⟩
theorem witness_StatusRegistersReadZeroAfterReset :
    ∃ t, exec .reset doneState = .next t ∧ 0 < 6 ∧ 5 < 6 := ⟨_, rfl, by decide, by decide⟩
theorem witness_StartBeginsInvocation :
    doneState.st ≠ .polling ∧ ¬ (doneState.cfg.addrPolicy = .reject ∧ 8 ≤ (7#4).toNat) ∧
    (doneState.cfg.addrPolicy = .reject ∧ 8 ≤ (8#4).toNat) ∧ (truncating doneState).st ≠ .polling ∧
    ¬ ((truncating doneState).cfg.addrPolicy = .reject ∧ 8 ≤ (15#4).toNat) := by decide
theorem witness_StartIgnoredWhilePolling :
    (polling .unbounded 4#4 1#32).st = .polling ∧ (waiting .unbounded 4#4 1#32).st = .polling := by decide
theorem witness_StartForgetsThePast :
    (State.reset.st ≠ .polling ∧ deviceState.st ≠ .polling) ∧ State.reset.cfg = deviceState.cfg ∧
    State.reset.moves = deviceState.moves ∧ State.reset.draws = deviceState.draws := by decide
theorem witness_AdmitByPolicy : doneState.st ≠ .polling ∧ admits doneState.cfg.addrPolicy 8#4 = false := by decide
theorem witness_IssueSendsLatchedFrame :
    ((polling .unbounded 4#4 1#32).st = .polling ∧ (polling .unbounded 4#4 1#32).pending = false) ∧
    ¬ ((waiting .unbounded 4#4 1#32).st = .polling ∧ (waiting .unbounded 4#4 1#32).pending = false) ∧
    ¬ (doneState.st = .polling ∧ doneState.pending = false) := by decide
theorem witness_CounterSaturates :
    (∃ t, exec .issue (polling .unbounded 4#4 0xFFFFFFFE#32) = .next t ∧ t.xfers ≠ 0xFFFFFFFE#32) ∧
    ∃ t, exec .issue (polling .unbounded 4#4 0xFFFFFFFF#32) = .next t := ⟨⟨_, rfl, by decide⟩, ⟨_, rfl⟩⟩
theorem witness_ReadSendsItsFrame :
    (polling .unbounded 7#4 0#32).cmd = ⟨0xA0#8 ||| (7#4).setWidth 8, 0#8, 0#8, 0#8⟩ ∧
    (polling .unbounded 8#4 0#32).cmd = ⟨0xA0#8 ||| (8#4).setWidth 8, 0#8, 0#8, 0#8⟩ ∧
    (polling .unbounded 7#4 0#32).st = .polling ∧ (polling .unbounded 7#4 0#32).pending = false := by decide
theorem witness_FrameSentOnlyWhenLatched :
    (polling .unbounded 7#4 0#32).cmd = commandFrame 7#4 ∧ (polling .unbounded 7#4 0#32).cmd ≠ commandFrame 6#4 ∧
    ¬ ((waiting .unbounded 7#4 1#32).st = .polling ∧ (waiting .unbounded 7#4 1#32).pending = false) := by decide
theorem witness_OnlyAdmittedCommandFramesGoOut :
    (truncating (waiting .unbounded 8#4 1#32)).Good ∧
    ∃ t, exec (.start 2#4) (truncating (waiting .unbounded 8#4 1#32)) = .next t ∧
      t.spiTx = some (commandFrame 8#4) ∧ 8 ≤ t.chan.toNat := ⟨good_waiting_alias, _, rfl, rfl, by decide⟩
theorem witness_pending_transfer : (waiting (.bounded 3#32) 7#4 3#32).pending = true := by decide
theorem witness_CompleteWrongLengthFails :
    ([] : List Byte).length ≠ 4 ∧ ([0x80#8, 0#8, 0#8, 0#8, 0#8] : List Byte).length ≠ 4 ∧
    ∃ t, exec (.complete (.ok [0x80#8, 0#8, 0#8, 0#8])) { waiting .unbounded 7#4 1#32 with err := .framing } = .next t ∧
      t.err = .framing := ⟨by decide, by decide, _, rfl, rfl⟩
theorem witness_CompleteConverges : (waiting (.bounded 3#32) 7#4 3#32).pending = true ∧ (0x7F#8).getLsbD 7 = false := by decide
theorem witness_CompleteBusyKeepsPolling :
    (waiting (.bounded 4#32) 7#4 3#32).pending = true ∧ (0x80#8).getLsbD 7 = true ∧
    (∀ n, (waiting (.bounded 4#32) 7#4 3#32).cfg.maxTransfers = .bounded n →
      (waiting (.bounded 4#32) 7#4 3#32).xfers.toNat < n.toNat) ∧
    (waiting (.bounded 4#32) 7#4 3#32).st = .polling ∧
    ∃ t, exec (.complete (.ok [0x80#8, 0#8, 0#8, 0#8])) (waiting (.bounded 4#32) 7#4 3#32) = .next t := by
  refine ⟨rfl, by decide, ?_, rfl, _, rfl⟩
  intro n h
  cases h
  decide
theorem witness_CompleteBusyTimesOut :
    (waiting (.bounded 3#32) 7#4 3#32).pending = true ∧ (0x80#8).getLsbD 7 = true ∧
    (waiting (.bounded 3#32) 7#4 3#32).cfg.maxTransfers = .bounded 3#32 ∧
    (3#32).toNat ≤ (waiting (.bounded 3#32) 7#4 3#32).xfers.toNat ∧ (waiting (.bounded 3#32) 7#4 3#32).Inv :=
  ⟨rfl, by decide, rfl, by decide, good_waiting.inv⟩
theorem witness_ResponseBusyRecords :
    (waiting (.bounded 3#32) 7#4 3#32).pending = true ∧
    (∀ n, (waiting (.bounded 4#32) 7#4 3#32).cfg.maxTransfers = .bounded n →
      (waiting (.bounded 4#32) 7#4 3#32).xfers.toNat < n.toNat) ∧
    (3#32).toNat ≤ (waiting (.bounded 3#32) 7#4 3#32).xfers.toNat :=
  ⟨rfl, witness_CompleteBusyKeepsPolling.2.2.1, by decide⟩
theorem witness_CompleteNeedsPendingTransfer : (polling .unbounded 7#4 1#32).pending = false := by decide
theorem witness_IgnoredBitsReachOnlyLastRx :
    (Frame.mk 0x20#8 0#8 0#8 1#8).word &&& 0xAFFFFFFF#32 = (Frame.mk 0x70#8 0#8 0#8 1#8).word &&& 0xAFFFFFFF#32 ∧
    ∃ t, exec (.complete (.ok (Frame.mk 0x20#8 0#8 0#8 1#8).bytes)) (waiting .unbounded 7#4 1#32) = .next t :=
  ⟨by decide, _, rfl⟩

/-- Every row of the transition table starts from one of these states. -/
theorem witness_TransitionTable :
    (polling (.bounded 3#32) 7#4 2#32).Inv ∧ (waiting (.bounded 3#32) 7#4 3#32).Inv ∧ doneState.Inv ∧
    refusedState.Inv ∧ timedOutState.Inv ∧ idleState.Inv ∧
    boundReached (.bounded 3#32) 3#32 = true ∧ boundReached (.bounded 4#32) 3#32 = false :=
  ⟨good_polling.inv, good_waiting.inv, good_done.inv, good_refused.inv, good_timedOut.inv, good_idle.inv, by decide, by decide⟩
theorem witness_FieldsWrittenOnlyByTheirSteps :
    (∃ t, exec .issue (polling .unbounded 7#4 1#32) = .next t) ∧
    ∃ t, exec (.complete .ioError) (waiting .unbounded 7#4 1#32) = .next t := ⟨⟨_, rfl⟩, ⟨_, rfl⟩⟩

/-- An ignored START in POLLING. -/
theorem witness_PollingKeepsItsFrame :
    ∃ t, exec (.start 2#4) (waiting .unbounded 7#4 1#32) = .next t ∧ (waiting .unbounded 7#4 1#32).st = .polling ∧
      t.st = .polling := ⟨_, rfl, rfl, rfl⟩
theorem witness_NoOverlappingTransfers :
    (waiting (.bounded 3#32) 7#4 3#32).Good ∧ (waiting (.bounded 3#32) 7#4 3#32).pending = true ∧
    ∃ t, exec (.start 2#4) (waiting (.bounded 3#32) 7#4 3#32) = .next t ∧ t.pending = true :=
  ⟨good_waiting, rfl, _, rfl, rfl⟩
theorem witness_TerminalStatesLeftOnlyByHost :
    doneState.Inv ∧ doneState.terminal ∧ doneState.moves = [] ∧ ∃ t, exec (.start 7#4) doneState = .next t :=
  ⟨good_done.inv, .inl rfl, rfl, _, rfl⟩
theorem witness_OnlyFinalResponseConverges :
    ∃ t, exec (.rspDataPos false false 5#28) (waiting .unbounded 7#4 1#32) = .next t ∧
      (waiting .unbounded 7#4 1#32).st ≠ .converged ∧ t.st = .converged :=
  ⟨_, rfl, by decide, by decide⟩
theorem witness_ErrorCauses :
    (∃ t, exec (.start 8#4) doneState = .next t ∧ doneState.st ≠ .failed ∧ t.st = .failed) ∧
    (∃ t, exec (.complete .ioError) (waiting .unbounded 7#4 1#32) = .next t ∧ t.st = .failed) ∧
    (∃ t, exec (.complete (.ok [])) (waiting .unbounded 7#4 1#32) = .next t ∧ t.st = .failed) ∧
    ∃ t, exec (.rspBusy false false false 0#28) (waiting (.bounded 3#32) 7#4 3#32) = .next t ∧ t.st = .timedOut :=
  ⟨⟨_, rfl, by decide, by decide⟩, ⟨_, rfl, by decide⟩, ⟨_, rfl, by decide⟩, ⟨_, rfl, by decide⟩⟩

/-! The reachable states of ErrorRecords, ReachableStatesMeetInvariants and ResultIsDecodedFinalResponse are reached by
their programs. -/

/-- Runs instructions, for the witnesses below. -/
def runAll : List Instr → State → Option State
  | [], s => some s
  | i :: is, s => (nextOf (exec i s)).bind (runAll is)

theorem reachable_runAll {is : List Instr} {s t : State} (hs : s.Reachable) (h : runAll is s = some t) : t.Reachable := by
  induction is generalizing s with
  | nil => cases h; exact hs
  | cons i is ih =>
    cases ho : nextOf (exec i s) with
    | none => rw [runAll, ho] at h; cases h
    | some u =>
      rw [runAll, ho] at h
      exact ih (.step i s u hs (nextOf_eq_some.mp ho)) h

theorem reachable_reset : State.reset.Reachable := State.Reachable.reset State.reset rfl

theorem witness_ErrorRecords :
    refusedState.Reachable ∧ deviceState.Reachable ∧ framingState.Reachable ∧
    refusedState.err = .address ∧ deviceState.err = .deviceIo ∧ framingState.err = .framing :=
  ⟨reachable_runAll (is := [.start 9#4]) reachable_reset (by decide),
   reachable_runAll (is := [.start 2#4, .issue, .complete .ioError]) reachable_reset (by decide),
   reachable_runAll (is := [.start 2#4, .issue, .complete (.ok [0x20#8, 0#8, 0#8])]) reachable_reset (by decide),
   rfl, rfl, rfl⟩

theorem witness_ErrorRecords_timeout : timedOutState.Reachable ∧ timedOutState.st = .timedOut :=
  ⟨reachable_runAll (is := [.start 6#4, .issue, .rspBusy false false false 0#28, .issue, .rspBusy true true true 0xFFFFFFF#28])
    (State.Reachable.reset { State.reset with cfg := ⟨.reject, .bounded 2#32⟩ } rfl) (by decide), rfl⟩

theorem witness_ResultIsDecodedFinalResponse :
    ∃ t : State, t.Reachable ∧ t.result = .sample true 0xABCDEF0#28 7718#14 ∧ valid State.reset = false :=
  ⟨_, reachable_runAll (is := [.start 3#4, .issue, .rspDataPos false false 0xABCDEF0#28]) reachable_reset rfl,
   by decide, by decide⟩

/-- The other results of R161: the timeout, an error, and none. -/
theorem witness_ResultIsDecodedFinalResponse_others :
    (timedOutState.Reachable ∧ timedOutState.st = .timedOut) ∧ (deviceState.Reachable ∧ deviceState.st = .failed) ∧
    State.reset.Reachable ∧ State.reset.st = .idle ∧ ∃ t : State, t.Reachable ∧ t.st = .converged :=
  ⟨witness_ErrorRecords_timeout, ⟨witness_ErrorRecords.2.1, rfl⟩, reachable_reset, rfl, _,
   reachable_runAll (is := [.start 3#4, .issue, .rspDataPos false false 0xABCDEF0#28]) reachable_reset rfl, rfl⟩

theorem witness_ResetStateIsGood : idleState.cfg.maxTransfers.legal = true ∧ ∃ t, exec .reset idleState = .next t :=
  ⟨rfl, _, rfl⟩
theorem witness_StepKeepsGood :
    (polling (.bounded 3#32) 7#4 2#32).Good ∧ ∃ t, step (polling (.bounded 3#32) 7#4 2#32) = .next t :=
  ⟨good_polling, _, rfl⟩

/-- POLLING with one transfer of two left and one answer offered. -/
theorem witness_BoundedPollingTerminates :
    ∃ s : State, s.cfg.maxTransfers = .bounded 2#32 ∧ s.st = .polling ∧ s.pending = false ∧
      s.xfers.toNat < (2#32).toNat ∧ (2#32).toNat - s.xfers.toNat ≤ ([Answer.ioError] : List Answer).length ∧
      s.moves = pollSchedule [.ioError] :=
  ⟨{ polling (.bounded 2#32) 7#4 1#32 with moves := pollSchedule [.ioError] }, rfl, rfl, rfl, by decide, by decide, rfl⟩

/-- At the bound with the last transfer pending, and one below it with none pending. -/
theorem witness_OwnRunTerminates :
    ((waiting (.bounded 3#32) 7#4 3#32).moves = [] ∧ (waiting (.bounded 3#32) 7#4 3#32).xfers.toNat ≤ (3#32).toNat ∧
      ((waiting (.bounded 3#32) 7#4 3#32).pending = false →
        (waiting (.bounded 3#32) 7#4 3#32).xfers.toNat < (3#32).toNat)) ∧
    (polling (.bounded 3#32) 7#4 2#32).pending = false ∧
    (polling (.bounded 3#32) 7#4 2#32).xfers.toNat < (3#32).toNat := by decide
theorem witness_UnboundedBusyNeverEnds :
    ∃ s : State, s.cfg.maxTransfers = .unbounded ∧ s.st = .polling ∧ s.pending = false ∧
      (∀ f ∈ [Frame.mk 0x80#8 0#8 0#8 0#8, ⟨0xFF#8, 1#8, 2#8, 3#8⟩], f.b0.getLsbD 7 = true) ∧
      s.moves = pollSchedule ([Frame.mk 0x80#8 0#8 0#8 0#8, ⟨0xFF#8, 1#8, 2#8, 3#8⟩].map fun f => .ok f.bytes) :=
  ⟨{ polling .unbounded 7#4 9#32 with
      moves := pollSchedule ([Frame.mk 0x80#8 0#8 0#8 0#8, ⟨0xFF#8, 1#8, 2#8, 3#8⟩].map fun f => .ok f.bytes) },
   rfl, rfl, rfl, by decide, rfl⟩
theorem witness_PollingIsNeverAnEnd :
    ((polling .unbounded 7#4 1#32).moves = [] ∧ (polling .unbounded 7#4 1#32).st = .polling ∧
      (polling .unbounded 7#4 1#32).pending = false) ∧
    ((waiting .unbounded 7#4 1#32).moves = [] ∧ (waiting .unbounded 7#4 1#32).pending = true) ∧
    (doneState.moves = [] ∧ doneState.st ≠ .polling ∧ doneState.pending = false) := by decide
theorem witness_StepRunsDecodedInstruction :
    decode (.inbound (.ok [0x80#8, 0#8, 0#8, 0#8])) = .ok (.rspBusy false false false 0#28) ∧
    decode (.outbound []) = .error .commandLength ∧
    (polling .unbounded 7#4 1#32).moves = [] ∧ (waiting .unbounded 7#4 1#32).pending = true := by decide
theorem witness_PlacedWordRunsNext :
    decodeTableWord 32 0xAF000000 = some (.readAlias 15#4) ∧ decodeTableWord 32 0x0FFFFFFF = some (.rspDataNeg false false 0xFFFFFFF#28) := by
  decide
theorem witness_ResultCodes :
    idleState.Inv ∧ (polling (.bounded 3#32) 7#4 2#32).Inv ∧ doneState.Inv ∧ timedOutState.Inv ∧ deviceState.Inv ∧
    framingState.Inv ∧ refusedState.Inv :=
  ⟨good_idle.inv, good_polling.inv, good_done.inv, good_timedOut.inv, good_device.inv, good_framing.inv, good_refused.inv⟩

end Sys2Proof.Tests
end

section
/-! PROOFS. The state and the status registers (spec/10_state.md): who writes which field (R21, R27), the codes of R22 and
R23, and the six registers of R32 to R38. -/

namespace Sys2Proof.Machine

/-! ### What the steps write and what they keep -/

section
variable (ans : Answer) (a : Chan) (s : State)

/-- COMPLETE keeps the latched channel and frame, the counter and the surroundings, in each of its three cases. -/
@[simp] theorem completeEffect_frame :
    (completeEffect ans s).chan = s.chan ∧ (completeEffect ans s).cmd = s.cmd ∧
    (completeEffect ans s).xfers = s.xfers ∧ (completeEffect ans s).cfg = s.cfg ∧
    (completeEffect ans s).moves = s.moves ∧ (completeEffect ans s).draws = s.draws := by
  obtain ⟨-, h⟩ | ⟨_, -, -, h⟩ | ⟨_, -, h⟩ := completeEffect_cases ans s <;> simp [h]

/-- START, whether it is ignored, begins or is refused, keeps the surroundings. -/
@[simp] theorem startInvocation_frame :
    (startInvocation a s).cfg = s.cfg ∧ (startInvocation a s).moves = s.moves ∧
    (startInvocation a s).draws = s.draws := by
  obtain ⟨-, h⟩ | ⟨-, -, h⟩ | ⟨-, -, h⟩ := startInvocation_cases a s <;> simp [h]

end

/-- The instructions that are an ISSUE: the step itself and the two rows of command frames (R79, R153). -/
abbrev IssuesTransfer (i : Instr) : Prop := i = .issue ∨ ∃ a, i = .read a ∨ i = .readAlias a

section
variable {i : Instr} {s t : State}

theorem exec_reset_next : exec .reset s = .next t ↔ t = resetBlock s := by
  simp [exec, execReset, eq_comm]

/-- However an ISSUE is put, its next state is that of ISSUE. -/
theorem exec_issuesTransfer_next (hi : IssuesTransfer i) (h : exec i s = .next t) : t = issueEffect s := by
  obtain rfl | ⟨a, rfl | rfl⟩ := hi
  · exact (issueStep_next.mp h).2.2
  · exact (sendFrame_next.mp h).2.2.2
  · exact (sendFrame_next.mp h).2.2.2

/-- What the host does not do is an ISSUE or a COMPLETE (R150). -/
theorem exec_cases_of_not_host (h : exec i s = .next t) (hreset : i ≠ .reset) (hstart : ∀ a, i ≠ .start a) :
    (IssuesTransfer i ∧ t = issueEffect s) ∨ ∃ ans, t = completeEffect ans s := by
  obtain ⟨hi, -⟩ | ⟨a, hi, -⟩ | ⟨hi, -, -, ht⟩ | ⟨ans, -, ht, -⟩ := exec_cases h
  · exact absurd hi hreset
  · exact absurd hi (hstart a)
  · exact .inl ⟨hi.imp_right fun ⟨a, hrow, _⟩ => ⟨a, hrow⟩, ht⟩
  · exact .inr ⟨ans, ht⟩

/-- No instruction writes the parameters, the offered moves or the draws. -/
theorem exec_keeps_surroundings (h : exec i s = .next t) :
    t.cfg = s.cfg ∧ t.moves = s.moves ∧ t.draws = s.draws := by
  obtain ⟨-, rfl⟩ | ⟨a, -, rfl⟩ | ⟨-, -, -, rfl⟩ | ⟨ans, -, rfl, -⟩ := exec_cases h <;> simp

/-- The channel and the command frame are latched: only the host's steps write them (R25, R26). -/
theorem exec_keeps_latch (h : exec i s = .next t) (hreset : i ≠ .reset) (hstart : ∀ a, i ≠ .start a) :
    t.chan = s.chan ∧ t.cmd = s.cmd := by
  obtain ⟨-, rfl⟩ | ⟨ans, rfl⟩ := exec_cases_of_not_host h hreset hstart <;> simp

end

/-! ### The transfer counter -/

theorem countTransfer_toNat_of_ne {x : BitVec 32} (h : x ≠ 0xFFFFFFFF#32) :
    (countTransfer x).toNat = x.toNat + 1 := by
  rw [countTransfer_toNat]
  bv_omega

theorem countTransfer_max : countTransfer 0xFFFFFFFF#32 = 0xFFFFFFFF#32 := by decide

/-- Settles O23: ISSUE counts with `countTransfer`, and by the four kinds of steps only ISSUE, START and RESET write the
counter. -/
theorem counterSaturates : Obligations.CounterSaturates := by
  refine ⟨fun s t h => ?_, fun i s t h hx => ?_⟩
  · obtain rfl := exec_issuesTransfer_next (.inl rfl) h
    exact ⟨countTransfer_toNat_of_ne, fun hmax => by simp [hmax, countTransfer_max]⟩
  · obtain ⟨hi, -⟩ | ⟨a, hi, -⟩ | ⟨hi, -⟩ | ⟨ans, -, rfl, -⟩ := exec_cases h
    · exact .inr (.inl hi)
    · exact .inr (.inr ⟨a, .inr (.inr hi)⟩)
    · obtain hi | ⟨a, hi | hi, -⟩ := hi
      · exact .inl hi
      · exact .inr (.inr ⟨a, .inl hi⟩)
      · exact .inr (.inr ⟨a, .inr (.inl hi)⟩)
    · simp at hx

/-- Settles O38, from what ISSUE and COMPLETE keep. -/
theorem fieldsWrittenOnlyByTheirSteps : Obligations.FieldsWrittenOnlyByTheirSteps := by
  intro i s t h
  obtain ⟨hcfg, hmoves, hdraws⟩ := exec_keeps_surroundings h
  refine ⟨hcfg, hmoves, hdraws, fun hreset hstart => ?_⟩
  obtain ⟨hchan, hcmd⟩ := exec_keeps_latch h hreset hstart
  refine ⟨hchan, hcmd, fun hi => ?_, fun hi => ?_⟩
  · obtain rfl := exec_issuesTransfer_next hi h
    simp
  · obtain ⟨hi', -⟩ | ⟨ans, rfl⟩ := exec_cases_of_not_host h hreset hstart
    · exact absurd hi' hi
    · simp

/-! ### STATUS -/

section
open BitVec (extractLsb'_append_eq_of_le extractLsb'_append_eq_of_add_le extractLsb'_eq_self getLsbD_append)
variable (s : State)

theorem busy_iff : busy s = true ↔ s.st = .polling := by simp [busy]

theorem done_iff : done s = true ↔ s.st = .converged ∨ s.st = .timedOut ∨ s.st = .failed := by
  simp [done, or_assoc]

theorem valid_iff : valid s = true ↔ s.st = .converged := by simp [valid]

/-- The bit fields of STATUS, and the zeros above them (R33). -/
theorem statusReg_fields :
    (statusReg s).extractLsb' 0 3 = s.st.code ∧ (statusReg s).extractLsb' 3 2 = s.err.code ∧
    (statusReg s).extractLsb' 9 4 = s.chan ∧ (statusReg s).extractLsb' 13 3 = resultCode s.st s.err ∧
    (statusReg s).extractLsb' 16 16 = 0#16 := by
  simp (disch := decide) only [statusReg, extractLsb'_append_eq_of_le, extractLsb'_append_eq_of_add_le, Nat.reduceSub,
    extractLsb'_eq_self, and_self]

/-- The single bits of STATUS (R33). -/
theorem statusReg_flags :
    (statusReg s).getLsbD 5 = busy s ∧ (statusReg s).getLsbD 6 = done s ∧
    (statusReg s).getLsbD 7 = valid s ∧ (statusReg s).getLsbD 8 = s.pending := by
  simp only [statusReg, getLsbD_append]; simp

/-! ### SAMPLE and NORM -/

theorem sampleReg_raw : (sampleReg s).extractLsb' 0 28 = s.smpRaw := by
  simp (disch := decide) only [sampleReg, extractLsb'_append_eq_of_add_le, extractLsb'_eq_self]

/-- The four bits above RAW. -/
theorem sampleReg_flags :
    (sampleReg s).getLsbD 28 = s.smpSign ∧ (sampleReg s).getLsbD 29 = s.smpEoc ∧
    (sampleReg s).getLsbD 30 = s.smpHave ∧ (sampleReg s).getLsbD 31 = false := by
  simp only [sampleReg, getLsbD_append]; simp

theorem normReg_fields : (normReg s).extractLsb' 0 14 = s.smpNorm ∧ (normReg s).extractLsb' 14 2 = 0#2 := by
  simp (disch := decide) only [normReg, extractLsb'_append_eq_of_le, extractLsb'_append_eq_of_add_le, Nat.reduceSub,
    extractLsb'_eq_self, and_self]

/-! ### The word view of a frame -/

/-- Byte 0 is most significant (R52). -/
theorem word_byte0 (f : Frame) : f.word.extractLsb' 24 8 = f.b0 := by
  simp (disch := decide) only [Frame.word, extractLsb'_append_eq_of_le, Nat.reduceSub, extractLsb'_eq_self]

/-- Byte 3 is least significant (R52). -/
theorem word_byte3 (f : Frame) : f.word.extractLsb' 0 8 = f.b3 := by
  simp (disch := decide) only [Frame.word, extractLsb'_append_eq_of_add_le, extractLsb'_eq_self]

/-! ### Reads by number -/

/-- There are the six registers 0 to 5 and no other (R32). -/
theorem readReg_add_six (n : Nat) : readReg (n + 6) s = none := rfl

/-- Every register shows fields of the block alone, so RESET leaves in each what `State.reset` has there. -/
theorem readReg_resetBlock (n : Nat) : readReg n (resetBlock s) = readReg n State.reset := rfl

end

/-- The reset columns of R33 to R38. -/
theorem readReg_reset : ∀ n < 6, readReg n State.reset = some 0#32 := by decide

/-- Settles O55: BUSY, DONE and VALID are the bits of STATUS, and each is its condition on `st`. -/
theorem statusRegisterFields : Obligations.StatusRegisterFields := by
  refine ⟨fun s => ?_, Option.some.inj (readReg_reset 0 (by decide))⟩
  obtain ⟨hst, herr, hchan, hresult, hzeros⟩ := statusReg_fields s
  obtain ⟨hbusy, hdone, hvalid, hpending⟩ := statusReg_flags s
  rw [hbusy, hdone, hvalid]
  exact ⟨hst, herr, busy_iff s, done_iff s, valid_iff s, hpending, hchan, hresult, hzeros, rfl⟩

/-- Settles O56, field by field. -/
theorem sampleAndNormRegisterFields : Obligations.SampleAndNormRegisterFields := by
  refine ⟨fun s => ?_, Option.some.inj (readReg_reset 1 (by decide)), by decide⟩
  obtain ⟨hsign, heoc, hhave, hzero⟩ := sampleReg_flags s
  obtain ⟨hnorm, hzeros⟩ := normReg_fields s
  exact ⟨sampleReg_raw s, hsign, heoc, hhave, hzero, hnorm, hzeros, rfl, rfl, readReg_add_six s⟩

/-- Settles O57: the registers are the counter and the two word views, by their definitions. -/
theorem counterAndFrameRegisters : Obligations.CounterAndFrameRegisters :=
  ⟨fun s => ⟨rfl, rfl, rfl, word_byte0 s.lastRx, word_byte3 s.lastRx, word_byte0 s.cmd⟩,
   readReg_reset 3 (by decide), readReg_reset 4 (by decide), readReg_reset 5 (by decide)⟩

/-- Settles O17: RESET leaves the registers of the reset state. -/
theorem statusRegistersReadZeroAfterReset : Obligations.StatusRegistersReadZeroAfterReset := by
  intro s t h n hn
  rw [exec_reset_next.mp h, readReg_resetBlock, readReg_reset n hn]

/-- Settles O54, code by code. -/
theorem stateAndErrorCodes : Obligations.StateAndErrorCodes :=
  ⟨rfl, rfl, rfl, rfl, rfl, rfl, rfl, rfl, rfl⟩

end Sys2Proof.Machine
end

section
/-! PROOFS. The frames and the transfers (spec/20_memory.md): the word view of R52, that every ISSUE sends the latched frame
(R61), that at most one transfer is outstanding (R59), and that only an issued transfer is answered (R63). -/

namespace Sys2Proof

/-! ### The word view of a frame, both ways -/

section
open BitVec (extractLsb'_append_eq_of_le extractLsb'_append_eq_of_add_le extractLsb'_eq_self
  extractLsb'_append_extractLsb'_eq_extractLsb')

/-- Concatenation as a sum: the left part is weighed by the width of the right one. -/
theorem toNat_append_eq_add {m n : Nat} (x : BitVec m) (y : BitVec n) :
    (x ++ y).toNat = x.toNat * 2 ^ n + y.toNat := by
  rw [BitVec.toNat_append, ← Nat.shiftLeft_add_eq_or_of_lt y.isLt, Nat.shiftLeft_eq]

/-- The second equation of R52. -/
theorem Frame.word_toNat (f : Frame) :
    f.word.toNat = f.b0.toNat * 2 ^ 24 + f.b1.toNat * 2 ^ 16 + f.b2.toNat * 2 ^ 8 + f.b3.toNat := by
  simp only [Frame.word, toNat_append_eq_add]
  omega

theorem word_byte1 (f : Frame) : f.word.extractLsb' 16 8 = f.b1 := by
  simp (disch := decide) only [Frame.word, extractLsb'_append_eq_of_le, extractLsb'_append_eq_of_add_le, Nat.reduceSub,
    extractLsb'_eq_self]

theorem word_byte2 (f : Frame) : f.word.extractLsb' 8 8 = f.b2 := by
  simp (disch := decide) only [Frame.word, extractLsb'_append_eq_of_le, extractLsb'_append_eq_of_add_le, Nat.reduceSub,
    extractLsb'_eq_self]

@[simp] theorem Frame.ofWord_word (f : Frame) : Frame.ofWord f.word = f := by
  simp only [Frame.ofWord, Machine.word_byte0, word_byte1, word_byte2, Machine.word_byte3]

/-- The bytes of a word, put together from byte 0 on, are the word. -/
@[simp] theorem Frame.word_ofWord (w : Word) : (Frame.ofWord w).word = w := by
  simp only [Frame.word, Frame.ofWord]
  rw [extractLsb'_append_extractLsb'_eq_extractLsb' (rfl : 24 = 16 + 8),
    extractLsb'_append_extractLsb'_eq_extractLsb' (rfl : 16 = 8 + 8),
    extractLsb'_append_extractLsb'_eq_extractLsb' (rfl : 8 = 0 + 8), extractLsb'_eq_self]

end

/-- Settles O5. -/
theorem wordViewIsBigEndian : Obligations.WordViewIsBigEndian :=
  ⟨fun f => ⟨f.word_toNat, f.ofWord_word⟩, Frame.word_ofWord⟩

end Sys2Proof

namespace Sys2Proof.Machine

/-! ### When a step is refused -/

section
variable {i : Instr} {s : State}

theorem issueStep_refused (h : ¬ (s.st = .polling ∧ s.pending = false)) : issueStep s = .refused .issueNotEnabled :=
  if_neg (mt (issueEnabled_iff s).mp h)

theorem completeStep_refused (ans : Answer) (h : s.pending = false) :
    completeStep ans s = .refused .completeNotEnabled := by
  simp [completeStep, h]

/-- The sending of a frame is an ISSUE where the frame is latched (R61), and only there. -/
theorem sendFrame_of_latched {tx : Frame} (h : s.cmd = tx) : sendFrame tx s = issueStep s := if_pos h

theorem sendFrame_of_not_latched {tx : Frame} (h : s.cmd ≠ tx) : sendFrame tx s = .refused .frameNotLatched := if_neg h

/-- Both rows of format `CMD` send the frame of their channel. -/
theorem exec_commandRow {a : Chan} (hi : i = .read a ∨ i = .readAlias a) : exec i s = sendFrame (commandFrame a) s := by
  obtain rfl | rfl := hi <;> rfl

/-- Each of the three rows of format `RSP` is a COMPLETE. -/
theorem exec_decodeResponse (f : Frame) (s : State) : ∃ ans, exec (decodeResponse f) s = completeStep ans s := by
  unfold decodeResponse
  split
  · exact ⟨_, rfl⟩
  · split
    · exact ⟨_, rfl⟩
    · exact ⟨_, rfl⟩

end

/-- Settles O25: a command row is the sending of its frame, and that is ISSUE where the frame is latched. -/
theorem frameSentOnlyWhenLatched : Obligations.FrameSentOnlyWhenLatched := by
  intro i a s hi
  rw [exec_commandRow hi]
  exact ⟨sendFrame_of_latched, sendFrame_of_not_latched, issueStep_refused⟩

/-- Settles O35: whatever is received is a COMPLETE, and COMPLETE needs a pending transfer. -/
theorem completeNeedsPendingTransfer : Obligations.CompleteNeedsPendingTransfer := by
  refine fun s hp => ⟨fun ans => completeStep_refused ans hp, fun f => ?_⟩
  obtain ⟨ans, h⟩ := exec_decodeResponse f s
  rw [h, completeStep_refused ans hp]

/-! ### What stays within an invocation -/

/-- START is ignored while POLLING (R152). -/
theorem startInvocation_of_polling {s : State} (a : Chan) (h : s.st = .polling) : startInvocation a s = s := by
  simp [startInvocation, h]

/-- COMPLETE answers the transfer, in each of its three cases. -/
@[simp] theorem completeEffect_pending (ans : Answer) (s : State) : (completeEffect ans s).pending = false := by
  obtain ⟨-, h⟩ | ⟨_, -, -, h⟩ | ⟨_, -, h⟩ := completeEffect_cases ans s <;> simp [h]

section
variable {i : Instr} {s t : State}

/-- However an ISSUE is put, it is made only while no transfer is pending (R153). -/
theorem not_pending_of_exec_issuesTransfer (hi : IssuesTransfer i) (h : exec i s = .next t) : s.pending = false := by
  obtain rfl | ⟨a, ha⟩ := hi
  · exact (issueStep_next.mp h).2.1
  · rw [exec_commandRow ha] at h
    exact (sendFrame_next.mp h).2.2.1

/-- Of the steps that leave a transfer pending where one was, only the ignored START remains. -/
theorem exec_eq_self_of_pending (hst : s.st = .polling) (hs : s.pending = true) (ht : t.pending = true)
    (h : exec i s = .next t) : t = s := by
  obtain ⟨-, rfl⟩ | ⟨a, -, rfl⟩ | ⟨-, -, hnot, -⟩ | ⟨ans, -, rfl, -⟩ := exec_cases h
  · simp at ht
  · exact startInvocation_of_polling a hst
  · simp [hs] at hnot
  · simp at ht

end

/-- Settles O39: a START is ignored, and no other step but RESET writes the latch. -/
theorem pollingKeepsItsFrame : Obligations.PollingKeepsItsFrame := by
  intro i s t hst hreset h _
  by_cases hstart : ∃ a, i = .start a
  · obtain ⟨a, rfl⟩ := hstart
    have ht : Host.Outcome.next (startInvocation a s) = .next t := h
    rw [startInvocation_of_polling a hst] at ht
    cases ht
    exact ⟨rfl, rfl⟩
  · exact exec_keeps_latch h hreset (not_exists.mp hstart)

/-- Settles O40: by clause (a) of R160 the FSM is POLLING, so the only step that leaves the transfer pending is an ignored
START. -/
theorem noOverlappingTransfers : Obligations.NoOverlappingTransfers := by
  intro i s t hgood hs h
  have hissue : ¬ IssuesTransfer i := fun hi => by
    have hnot := not_pending_of_exec_issuesTransfer hi h
    simp [hs] at hnot
  refine ⟨fun ht => ?_, fun hi => hissue (.inl hi),
    fun a => ⟨fun hi => hissue (.inr ⟨a, .inl hi⟩), fun hi => hissue (.inr ⟨a, .inr hi⟩)⟩⟩
  rw [exec_eq_self_of_pending (hgood.inv.pending_polling hs) hs ht h]
  exact ⟨rfl, rfl⟩

end Sys2Proof.Machine
end

section
/-! PROOFS. The encodings (spec/30_encoding.md): where the fields of a frame stand in its word (R72 to R74), which rows a
word matches (R75), that decoding and encoding undo each other, and what the frame rows do (R75, R76, R79). -/

namespace Sys2Proof

/-! ### Frames and their words -/

theorem Frame.word_injective {f g : Frame} (h : f.word = g.word) : f = g := by
  simpa using congrArg Frame.ofWord h

theorem Frame.word_inj {f g : Frame} :
    f.word = g.word ↔ f.b0 = g.b0 ∧ f.b1 = g.b1 ∧ f.b2 = g.b2 ∧ f.b3 = g.b3 := by
  constructor
  · intro h
    simp [Frame.word_injective h]
  · rintro ⟨h0, h1, h2, h3⟩
    simp only [Frame.word, h0, h1, h2, h3]

/-- A mask written as a frame masks each byte by its own. -/
theorem Frame.word_and (f m : Frame) :
    f.word &&& m.word = Frame.word ⟨f.b0 &&& m.b0, f.b1 &&& m.b1, f.b2 &&& m.b2, f.b3 &&& m.b3⟩ := by
  unfold Frame.word
  rw [BitVec.and_append, BitVec.and_append, BitVec.and_append]

/-- Matching a row of the opcode table, byte by byte. -/
theorem Pattern.hits_word_iff (f v m : Frame) :
    (Pattern.mk v.word m.word).hits f.word = true ↔
      f.b0 &&& m.b0 = v.b0 ∧ f.b1 &&& m.b1 = v.b1 ∧ f.b2 &&& m.b2 = v.b2 ∧ f.b3 &&& m.b3 = v.b3 := by
  simp only [Pattern.hits, beq_iff_eq, Frame.word_and, Frame.word_inj]

/-! ### The response frame and its fields -/

/-- A field that takes in all of the left part. -/
theorem extractLsb'_append_straddling {v m n : Nat} (x : BitVec v) (y : BitVec (n + m)) :
    (x ++ y).extractLsb' n (v + m) = x ++ y.extractLsb' n m := by
  apply BitVec.eq_of_getLsbD_eq
  intro i hi
  simp only [BitVec.getLsbD_append, BitVec.getLsbD_extractLsb', Nat.add_lt_add_iff_left, Nat.add_sub_add_left]
  by_cases h : i < m <;> simp [hi, h]

section
open BitVec (extractLsb'_append_eq_of_le extractLsb'_append_eq_of_add_le extractLsb'_eq_self getLsbD_append)
variable (eoc x6 sign x4 : Bool) (d : Raw) (f : Frame)

/-- The bits of R73 from bit 31 down: cut into bytes they are the response frame. -/
theorem responseFrame_word : (responseFrame eoc x6 sign x4 d).word =
    BitVec.ofBool eoc ++ BitVec.ofBool x6 ++ BitVec.ofBool sign ++ BitVec.ofBool x4 ++ d := by
  have hcut : responseFrame eoc x6 sign x4 d =
      Frame.ofWord (BitVec.ofBool eoc ++ BitVec.ofBool x6 ++ BitVec.ofBool sign ++ BitVec.ofBool x4 ++ d) := by
    have hbyte0 := extractLsb'_append_straddling (m := 4) (n := 24)
      (BitVec.ofBool eoc ++ BitVec.ofBool x6 ++ BitVec.ofBool sign ++ BitVec.ofBool x4) d
    simp (disch := decide) only [responseFrame, Frame.ofWord, hbyte0, extractLsb'_append_eq_of_add_le]
  rw [hcut, Frame.word_ofWord]

/-- Byte 0 is its four flags and its low nibble. -/
theorem byte_eq_flags_append_nibble : ∀ b : Byte,
    BitVec.ofBool (b.getLsbD 7) ++ BitVec.ofBool (b.getLsbD 6) ++ BitVec.ofBool (b.getLsbD 5) ++
      BitVec.ofBool (b.getLsbD 4) ++ b.extractLsb' 0 4 = b := by decide

/-- Every frame is the response frame of its fields: the table of R73 leaves out no bit. -/
theorem responseFrame_fields : responseFrame f.eocBit f.bit6 f.signBit f.bit4 f.dField = f := by
  simp (disch := decide) only [responseFrame, Frame.eocBit, Frame.bit6, Frame.signBit, Frame.bit4, Frame.dField,
    extractLsb'_append_eq_of_le, extractLsb'_append_eq_of_add_le, Nat.reduceSub, extractLsb'_eq_self,
    byte_eq_flags_append_nibble]

/-- The word of a frame by its fields (R73, R74). -/
theorem Frame.word_eq_fields : f.word = BitVec.ofBool f.eocBit ++ BitVec.ofBool f.bit6 ++ BitVec.ofBool f.signBit ++
    BitVec.ofBool f.bit4 ++ f.dField := by
  rw [← responseFrame_word, responseFrame_fields]

theorem Frame.eocBit_eq_word : f.eocBit = f.word.getLsbD 31 := by
  rw [Frame.word_eq_fields]; simp only [getLsbD_append]; simp

theorem Frame.signBit_eq_word : f.signBit = f.word.getLsbD 29 := by
  rw [Frame.word_eq_fields]; simp only [getLsbD_append]; simp

theorem Frame.dField_eq_word : f.dField = f.word.extractLsb' 0 28 := by
  rw [Frame.word_eq_fields]; simp (disch := decide) only [extractLsb'_append_eq_of_add_le, extractLsb'_eq_self]

/-- The mask of R74 leaves `D` and zeros above it. -/
theorem Frame.dField_setWidth : f.dField.setWidth 32 = f.word &&& 0x0FFFFFFF#32 := by
  have hmask : 0x0FFFFFFF#32 = 0#4 ++ BitVec.allOnes 28 := by decide
  rw [Frame.word_eq_fields, hmask, BitVec.and_append, BitVec.and_zero, BitVec.and_allOnes,
    BitVec.setWidth_eq_append (by decide)]
  rfl

end

/-- A word keeps `EOC`, `SIGN` and `D` under the mask that shuts out the ignored bits 30 and 28 (R74). -/
theorem Frame.fields_eq_of_masked_eq {f g : Frame} (h : f.word &&& 0xAFFFFFFF#32 = g.word &&& 0xAFFFFFFF#32) :
    f.eocBit = g.eocBit ∧ f.signBit = g.signBit ∧ f.dField = g.dField := by
  have h31 := congrArg (BitVec.getLsbD · 31) h
  have h29 := congrArg (BitVec.getLsbD · 29) h
  have hlow := congrArg (BitVec.extractLsb' 0 28) h
  have hones : (0xAFFFFFFF#32).extractLsb' 0 28 = BitVec.allOnes 28 := by decide
  rw [BitVec.extractLsb'_and, BitVec.extractLsb'_and, hones, BitVec.and_allOnes, BitVec.and_allOnes] at hlow
  rw [f.eocBit_eq_word, g.eocBit_eq_word, f.signBit_eq_word, g.signBit_eq_word, f.dField_eq_word, g.dField_eq_word]
  exact ⟨by simpa using h31, by simpa using h29, hlow⟩

/-- The decoder reads the three fields alone, so it does not see the ignored bits (R76). -/
theorem decodeSample_eq_of_masked_eq {f g : Frame} (h : f.word &&& 0xAFFFFFFF#32 = g.word &&& 0xAFFFFFFF#32) :
    Machine.decodeSample f = Machine.decodeSample g := by
  obtain ⟨heoc, hsign, hd⟩ := Frame.fields_eq_of_masked_eq h
  simp only [Machine.decodeSample, Machine.eocFlag, Machine.signFlag, Machine.preOf, heoc, hsign, hd]

/-- Settles O3. -/
theorem responseFrameWord : Obligations.ResponseFrameWord := responseFrame_word

/-- Settles O4, field by field. -/
theorem wordViewFields : Obligations.WordViewFields := fun f =>
  ⟨f.eocBit_eq_word, f.signBit_eq_word, f.dField_eq_word, f.dField_setWidth, fun _ => decodeSample_eq_of_masked_eq⟩

/-! ### The rows of format `RSP` -/

section
variable (f : Frame)

/-- A row that fixes bits of byte 0 alone. -/
theorem Pattern.hits_byte0 (v m : Byte) :
    (Pattern.mk (Frame.word ⟨v, 0#8, 0#8, 0#8⟩) (Frame.word ⟨m, 0#8, 0#8, 0#8⟩)).hits f.word = (f.b0 &&& m == v) := by
  rw [Bool.eq_iff_iff, Pattern.hits_word_iff]
  simp

theorem rowRspBusy_hits : rowRspBusy.hits f.word = f.eocBit := by
  have hbits : ∀ b : Byte, (b &&& 0x80#8 == 0x80#8) = b.getLsbD 7 := by decide
  exact (Pattern.hits_byte0 f 0x80#8 0x80#8).trans (hbits f.b0)

theorem rowRspDataPos_hits : rowRspDataPos.hits f.word = (!f.eocBit && f.signBit) := by
  have hbits : ∀ b : Byte, (b &&& 0xA0#8 == 0x20#8) = (!b.getLsbD 7 && b.getLsbD 5) := by decide
  exact (Pattern.hits_byte0 f 0x20#8 0xA0#8).trans (hbits f.b0)

theorem rowRspDataNeg_hits : rowRspDataNeg.hits f.word = (!f.eocBit && !f.signBit) := by
  have hbits : ∀ b : Byte, (b &&& 0xA0#8 == 0x00#8) = (!b.getLsbD 7 && !b.getLsbD 5) := by decide
  exact (Pattern.hits_byte0 f 0x00#8 0xA0#8).trans (hbits f.b0)

variable {f}

theorem decodeResponse_of_busy (he : f.eocBit = true) :
    decodeResponse f = .rspBusy f.bit6 f.bit4 f.signBit f.dField := by
  simp [decodeResponse, rowRspBusy_hits, he]

theorem decodeResponse_of_pos (he : f.eocBit = false) (hs : f.signBit = true) :
    decodeResponse f = .rspDataPos f.bit6 f.bit4 f.dField := by
  simp [decodeResponse, rowRspBusy_hits, rowRspDataPos_hits, he, hs]

theorem decodeResponse_of_neg (he : f.eocBit = false) (hs : f.signBit = false) :
    decodeResponse f = .rspDataNeg f.bit6 f.bit4 f.dField := by
  simp [decodeResponse, rowRspBusy_hits, rowRspDataPos_hits, he, hs]

/-- The three classes of R75: the row decoded, and the frame as that row's response frame. -/
theorem decodeResponse_cases (f : Frame) :
    (decodeResponse f = .rspBusy f.bit6 f.bit4 f.signBit f.dField ∧
      responseFrame true f.bit6 f.signBit f.bit4 f.dField = f) ∨
    (decodeResponse f = .rspDataPos f.bit6 f.bit4 f.dField ∧
      responseFrame false f.bit6 true f.bit4 f.dField = f) ∨
    (decodeResponse f = .rspDataNeg f.bit6 f.bit4 f.dField ∧
      responseFrame false f.bit6 false f.bit4 f.dField = f) := by
  have hf := responseFrame_fields f
  cases he : f.eocBit with
  | true =>
    rw [he] at hf
    exact .inl ⟨decodeResponse_of_busy he, hf⟩
  | false =>
    cases hs : f.signBit with
    | true =>
      rw [he, hs] at hf
      exact .inr (.inl ⟨decodeResponse_of_pos he hs, hf⟩)
    | false =>
      rw [he, hs] at hf
      exact .inr (.inr ⟨decodeResponse_of_neg he hs, hf⟩)

end

theorem wellFormed_decodeResponse (f : Frame) : (decodeResponse f).wellFormed = true := by
  obtain ⟨h, -⟩ | ⟨h, -⟩ | ⟨h, -⟩ := decodeResponse_cases f <;> rw [h] <;> rfl

theorem encode_decodeResponse (f : Frame) : encode (decodeResponse f) = .inbound (.ok f.bytes) := by
  obtain ⟨h, hf⟩ | ⟨h, hf⟩ | ⟨h, hf⟩ := decodeResponse_cases f <;> rw [h, encode, hf]

/-- Settles O8: each row matches by its value of `EOC` and `SIGN`. -/
theorem responseRowsPartition : Obligations.ResponseRowsPartition := by
  intro f
  change (f.eocBit = true → _) ∧ (f.eocBit = false → f.signBit = true → _) ∧
    (f.eocBit = false → f.signBit = false → _)
  rw [rowRspBusy_hits, rowRspDataPos_hits, rowRspDataNeg_hits]
  refine ⟨fun he => ?_, fun he hs => ?_, fun he hs => ?_⟩
  · simp [he, decodeResponse_of_busy]
  · simp [he, hs, decodeResponse_of_pos]
  · simp [he, hs, decodeResponse_of_neg]

/-! ### The rows of format `CMD` -/

/-- The words of the command frames (R72). -/
theorem commandFrame_word : ∀ a : Chan, (commandFrame a).word = 0xA0000000#32 ||| (a.setWidth 32 <<< 24) := by decide

/-- The low nibble of byte 0 is the channel (R71). -/
theorem commandFrame_channel : ∀ a : Chan, (commandFrame a).b0.extractLsb' 0 4 = a := by decide

/-- A row that fixes bytes 1 to 3 to 0 matches the command frames whose byte 0 its own byte 0 matches. -/
theorem Pattern.hits_iff_exists_commandFrame {v m : Byte} {P : Chan → Prop}
    (hbyte : ∀ b : Byte, b &&& m = v → P (b.extractLsb' 0 4) ∧ (commandFrame (b.extractLsb' 0 4)).b0 = b)
    (hframe : ∀ a, P a → (commandFrame a).b0 &&& m = v) (f : Frame) :
    (Pattern.mk (Frame.word ⟨v, 0#8, 0#8, 0#8⟩) (Frame.word ⟨m, 0xFF#8, 0xFF#8, 0xFF#8⟩)).hits f.word = true ↔
      ∃ a, P a ∧ f = commandFrame a := by
  have hones : 0xFF#8 = BitVec.allOnes 8 := rfl
  rw [Pattern.hits_word_iff, hones, BitVec.and_allOnes, BitVec.and_allOnes, BitVec.and_allOnes]
  constructor
  · rintro ⟨h0, h1, h2, h3⟩
    obtain ⟨ha, hb0⟩ := hbyte f.b0 h0
    exact ⟨_, ha, Frame.word_injective (Frame.word_inj.mpr ⟨hb0.symm, h1, h2, h3⟩)⟩
  · rintro ⟨a, ha, rfl⟩
    exact ⟨hframe a ha, rfl, rfl, rfl⟩

/-- The row `READ` matches the command frames of 0 to 7 and nothing else (R72). -/
theorem rowRead_hits (f : Frame) : rowRead.hits f.word = true ↔ ∃ a : Chan, a.toNat < 8 ∧ f = commandFrame a :=
  Pattern.hits_iff_exists_commandFrame (v := 0xA0#8) (m := 0xF8#8) (by decide) (by decide) f

/-- The row `READ_ALIAS` matches the command frames of 8 to 15 and nothing else (R72). -/
theorem rowReadAlias_hits (f : Frame) :
    rowReadAlias.hits f.word = true ↔ ∃ a : Chan, 8 ≤ a.toNat ∧ f = commandFrame a :=
  Pattern.hits_iff_exists_commandFrame (v := 0xA8#8) (m := 0xF8#8) (by decide) (by decide) f

/-- The channel can be read off a command frame. -/
theorem commandFrame_injective {a b : Chan} (h : commandFrame a = commandFrame b) : a = b := by
  rw [← commandFrame_channel a, h, commandFrame_channel b]

theorem decodeCommand_read {a : Chan} (ha : a.toNat < 8) : decodeCommand (commandFrame a) = .ok (.read a) := by
  rw [decodeCommand, if_pos ((rowRead_hits _).mpr ⟨a, ha, rfl⟩), commandFrame_channel]

theorem decodeCommand_readAlias {a : Chan} (ha : 8 ≤ a.toNat) :
    decodeCommand (commandFrame a) = .ok (.readAlias a) := by
  have hread : ¬ rowRead.hits (commandFrame a).word = true := fun h => by
    obtain ⟨b, hb, hab⟩ := (rowRead_hits _).mp h
    rw [commandFrame_injective hab] at ha
    omega
  rw [decodeCommand, if_neg hread, if_pos ((rowReadAlias_hits _).mpr ⟨a, ha, rfl⟩), commandFrame_channel]

theorem decodeCommand_error {f : Frame} (h : ∀ a, f ≠ commandFrame a) : decodeCommand f = .error .notACommand := by
  have hread : ¬ rowRead.hits f.word = true := fun hr => by
    obtain ⟨a, -, hf⟩ := (rowRead_hits f).mp hr
    exact h a hf
  have halias : ¬ rowReadAlias.hits f.word = true := fun hr => by
    obtain ⟨a, -, hf⟩ := (rowReadAlias_hits f).mp hr
    exact h a hf
  rw [decodeCommand, if_neg hread, if_neg halias]

/-- What `decodeCommand` accepts: the frame of a channel, as the row of its range. -/
theorem decodeCommand_ok {f : Frame} {i : Instr} (h : decodeCommand f = .ok i) :
    ∃ a : Chan, f = commandFrame a ∧ (a.toNat < 8 ∧ i = .read a ∨ 8 ≤ a.toNat ∧ i = .readAlias a) := by
  by_cases hf : ∃ a, f = commandFrame a
  · obtain ⟨a, rfl⟩ := hf
    refine ⟨a, rfl, ?_⟩
    obtain ha | ha := Nat.lt_or_ge a.toNat 8
    · rw [decodeCommand_read ha] at h
      exact .inl ⟨ha, (Except.ok.inj h).symm⟩
    · rw [decodeCommand_readAlias ha] at h
      exact .inr ⟨ha, (Except.ok.inj h).symm⟩
  · rw [decodeCommand_error (not_exists.mp hf)] at h
    cases h

/-- Settles O9. -/
theorem commandDecodeIsExact : Obligations.CommandDecodeIsExact := by
  refine ⟨fun f a => ⟨fun h => ?_, ?_⟩, fun f a => ⟨fun h => ?_, ?_⟩, fun f => decodeCommand_error⟩
  · obtain ⟨_, hf, ⟨ha, ⟨⟩⟩ | ⟨-, ⟨⟩⟩⟩ := decodeCommand_ok h
    exact ⟨ha, hf⟩
  · rintro ⟨ha, rfl⟩
    exact decodeCommand_read ha
  · obtain ⟨_, hf, ⟨-, ⟨⟩⟩ | ⟨ha, ⟨⟩⟩⟩ := decodeCommand_ok h
    exact ⟨ha, hf⟩
  · rintro ⟨ha, rfl⟩
    exact decodeCommand_readAlias ha

/-! ### Decoding and encoding -/

@[simp] theorem decode_outbound_bytes (f : Frame) : decode (.outbound f.bytes) = decodeCommand f := rfl

@[simp] theorem decode_inbound_bytes (f : Frame) : decode (.inbound (.ok f.bytes)) = .ok (decodeResponse f) := rfl

/-- Settles O6, row by row: a command row by its range of channels, a response row by its `EOC` and `SIGN`. -/
theorem decodeEncodeRoundTrip : Obligations.DecodeEncodeRoundTrip := by
  intro i hwf
  cases i with
  | read a => exact decodeCommand_read (of_decide_eq_true hwf)
  | readAlias a => exact decodeCommand_readAlias (of_decide_eq_true hwf)
  | rspBusy x6 x4 sign d => simp [encode, decodeResponse_of_busy]
  | rspDataPos x6 x4 d => simp [encode, decodeResponse_of_pos]
  | rspDataNeg x6 x4 d => simp [encode, decodeResponse_of_neg]
  | reset => rfl
  | start a => rfl
  | issue => rfl
  | complete ans => rfl

/-- What the outbound line accepts is the frame of a well-formed command row. -/
theorem decode_outbound_ok {bytes : List Byte} {i : Instr} (h : decode (.outbound bytes) = .ok i) :
    i.wellFormed = true ∧ encode i = .outbound bytes := by
  cases hf : Frame.ofBytes bytes with
  | none => simp [decode, hf] at h
  | some f =>
    obtain rfl := Frame.ofBytes_eq_some.mp hf
    rw [decode_outbound_bytes] at h
    obtain ⟨a, rfl, ⟨ha, rfl⟩ | ⟨ha, rfl⟩⟩ := decodeCommand_ok h
    · exact ⟨decide_eq_true ha, rfl⟩
    · exact ⟨decide_eq_true ha, rfl⟩

/-- Bytes that are no frame: an error going out, a COMPLETE coming in (R56, R155). -/
theorem decode_of_length_ne {bytes : List Byte} (h : bytes.length ≠ 4) :
    decode (.outbound bytes) = .error .commandLength ∧
    decode (.inbound (.ok bytes)) = .ok (.complete (.ok bytes)) := by
  simp [decode, Frame.ofBytes_eq_none.mpr h]

/-- Settles O7, line by line. -/
theorem encodeDecodeRoundTrip : Obligations.EncodeDecodeRoundTrip :=
  ⟨fun _ _ => decode_outbound_ok,
   fun f => ⟨decodeResponse f, decode_inbound_bytes f, wellFormed_decodeResponse f, encode_decodeResponse f⟩,
   fun _ => decode_of_length_ne, rfl⟩

/-- Settles O10: each word is a closed case of the decoder. -/
theorem sampleWordsDecode : Obligations.SampleWordsDecode := by
  unfold Obligations.SampleWordsDecode
  decide

end Sys2Proof

namespace Sys2Proof.Machine

/-! ### START latches the command frame -/

/-- START of an admitted address latches its frame (R151). -/
theorem exec_start_cmd {a : Chan} {s : State} (hst : s.st ≠ .polling) (ha : admits s.cfg.addrPolicy a = true) :
    ∃ t, exec (.start a) s = .next t ∧ t.cmd = commandFrame a := by
  obtain ⟨hp, -⟩ | ⟨-, -, h⟩ | ⟨-, hr, -⟩ := startInvocation_cases a s
  · exact absurd hp hst
  · exact ⟨_, rfl, by rw [h]⟩
  · rw [ha] at hr
    cases hr

/-- Settles O1: the equations of R72 over the 16 channels, the mask of 0 to 7 as that of row `READ`, and START. -/
theorem commandFrameWord : Obligations.CommandFrameWord := by
  intro a
  have hsum : ∀ a : Chan, (commandFrame a).word.toNat = 0xA0000000 + a.toNat * 0x01000000 := by decide
  have hmask : ∀ a : Chan, (commandFrame a).word &&& 0xF0FFFFFF#32 = 0xA0000000#32 := by decide
  have hread : a.toNat < 8 → (commandFrame a).word &&& 0xF8FFFFFF#32 = 0xA0000000#32 := fun ha =>
    eq_of_beq ((rowRead_hits _).mpr ⟨a, ha, rfl⟩)
  refine ⟨commandFrame_word a, hsum a, hmask a, fun ha => ⟨?_, hread ha⟩, fun s hst hp => ?_⟩
  · rw [hsum a]
    omega
  · exact exec_start_cmd hst (admit_eq_true.mpr (.inl hp))

/-! ### What the frame rows do -/

/-- Settles O24: the sending of a latched frame is ISSUE, which hands over `cmd`. -/
theorem readSendsItsFrame : Obligations.ReadSendsItsFrame := by
  intro a s hst hp hcmd
  have hsend : sendFrame (commandFrame a) s = .next (issueEffect s) := sendFrame_next.mpr ⟨hcmd, hst, hp, rfl⟩
  rw [exec_commandRow (.inl rfl), exec_commandRow (.inr rfl), hsend, ← hcmd]
  exact ⟨fun _ => rfl, fun _ => rfl⟩

/-- A row decoded from a response is the COMPLETE with that response (R75). -/
theorem exec_decodeResponse_eq (f : Frame) (s : State) :
    exec (decodeResponse f) s = completeStep (.ok f.bytes) s := by
  obtain ⟨h, hf⟩ | ⟨h, hf⟩ | ⟨h, hf⟩ := decodeResponse_cases f <;> rw [h] <;>
    exact congrArg (fun g : Frame => completeStep (.ok g.bytes) s) hf

/-- Settles O34. -/
theorem responseRowsAreComplete : Obligations.ResponseRowsAreComplete := exec_decodeResponse_eq

/-- COMPLETE with a 4-byte response records it and moves the FSM (R159). -/
theorem completeEffect_ok_bytes (f : Frame) (s : State) :
    completeEffect (.ok f.bytes) s = enterState (stateAfter (decodeSample f).eoc s) (recordSample f s) := rfl

/-- Settles O36: the two frames decode to one sample, and beside it only `last_rx` takes the bytes. -/
theorem ignoredBitsReachOnlyLastRx : Obligations.IgnoredBitsReachOnlyLastRx := by
  intro f g s t hmasked h
  obtain ⟨hp, rfl⟩ := completeStep_next.mp h
  refine completeStep_next.mpr ⟨hp, ?_⟩
  simp only [completeEffect_ok_bytes, enterState, recordSample, decodeSample_eq_of_masked_eq hmasked]

/-- DECODE of a response frame, from its fields (R127). -/
@[simp] theorem decodeSample_responseFrame (eoc x6 sign x4 : Bool) (d : Raw) :
    decodeSample (responseFrame eoc x6 sign x4 d) = ⟨eoc, sign, rawOf sign d, normCenti (rawOf sign d)⟩ := by
  simp [decodeSample, eocFlag, signFlag, preOf]

/-- While a transfer is pending, a response by its fields is recorded and moves the FSM (R156 to R158). -/
theorem completeStep_responseFrame {s : State} (hp : s.pending = true) (eoc x6 sign x4 : Bool) (d : Raw) :
    completeStep (.ok (responseFrame eoc x6 sign x4 d).bytes) s = .next
      { s with
        st := stateAfter eoc s, pending := false, spiTx := none, smpHave := true, smpEoc := eoc, smpSign := sign,
        smpRaw := rawOf sign d, smpNorm := normCenti (rawOf sign d),
        lastRx := responseFrame eoc x6 sign x4 d } := by
  refine completeStep_next.mpr ⟨hp, ?_⟩
  simp only [completeEffect_ok_bytes, enterState, recordSample, decodeSample_responseFrame]

/-- Inversion within 28 bits is subtraction from full scale (R124). -/
theorem rawOf_false_toNat (d : Raw) : (rawOf false d).toNat = 268435455 - d.toNat := by
  have hones : BitVec.ofNat 28 Config.fullScale = BitVec.allOnes 28 := by decide
  rw [rawOf, if_neg Bool.false_ne_true, hones, BitVec.xor_allOnes, BitVec.toNat_not]

/-- Settles O32: an `EOC` of 0 converges, and `norm_centi` is that of the recorded magnitude. -/
theorem responseDataConverges : Obligations.ResponseDataConverges := by
  intro x6 x4 d s hp
  refine ⟨completeStep_responseFrame hp false x6 true x4 d, ?_⟩
  rw [← rawOf_false_toNat, ← normCenti_eq]
  exact completeStep_responseFrame hp false x6 false x4 d

/-- Settles O33: a busy response stays or times out by the bound. -/
theorem responseBusyRecords : Obligations.ResponseBusyRecords := by
  intro x6 x4 sign d s hp
  refine ⟨stateAfter true s, completeStep_responseFrame hp true x6 sign x4 d, fun hbelow => ?_, fun n hn hle => ?_⟩
  · simp [stateAfter, boundReached_eq_false.mpr hbelow]
  · simp [stateAfter, boundReached_eq_true.mpr ⟨n, hn, hle⟩]

end Sys2Proof.Machine
end

section
/-! PROOFS. The Command Encoder (spec/40_command_encoder.md): the bytes of ENCODE (R102), what ADMIT accepts (R104), and
that only admitted command frames are handed to the SPI agent (R61, R103, R105). -/

namespace Sys2Proof

/-! ### Byte 0 of a command frame -/

theorem commandFrame_b0_toNat : ∀ a : Chan, (commandFrame a).b0.toNat = 0xA0 + a.toNat := by decide

/-- The channel field is not masked to 3 bits: bit 3 of byte 0 tells 8 to 15 from 0 to 7 (R103). -/
theorem commandFrame_b0_bit3 : ∀ a : Chan, (commandFrame a).b0.getLsbD 3 = decide (8 ≤ a.toNat) := by decide

/-- Settles O2: byte 0 by its value and its bit 3, the rest as `commandFrame` writes it. -/
theorem encodeBytes : Obligations.EncodeBytes := by
  intro a ha
  refine ⟨commandFrame_b0_toNat a, rfl, ?_, rfl, rfl, rfl⟩
  rw [commandFrame_b0_bit3]
  exact decide_eq_false (Nat.not_le.mpr ha)

theorem admits_reject_iff {a : Chan} : admits .reject a = true ↔ a.toNat ≤ 7 := by
  simp [admit_eq_true]

end Sys2Proof

namespace Sys2Proof.Machine

/-! ### START of a refused address -/

/-- START of a refused address fails the invocation that it has just cleared (R151, R204). -/
theorem startInvocation_of_refused {a : Chan} {s : State} (hst : s.st ≠ .polling)
    (ha : admits s.cfg.addrPolicy a = false) :
    startInvocation a s = raiseFailed .address { clearInvocation a s with cmd := Frame.zero } := by
  obtain ⟨hp, -⟩ | ⟨-, hadm, -⟩ | ⟨-, -, h⟩ := startInvocation_cases a s
  · exact absurd hp hst
  · simp [ha] at hadm
  · exact h

/-- Settles O21: Reject admits up to 7, Truncate everything, and a refused START raises `ADDRESS`. -/
theorem admitByPolicy : Obligations.AdmitByPolicy := by
  refine fun a => ⟨admits_reject_iff, admit_eq_true.mpr (.inl rfl), admits_reject_iff.mpr (by decide),
    admit_eq_false.mpr ⟨rfl, by decide⟩, fun s hst ha => ⟨startInvocation a s, rfl, ?_⟩⟩
  simp [startInvocation_of_refused hst ha]

/-! ### What the SPI agent holds -/

/-- COMPLETE takes the answered frame from the SPI agent, in each of its three cases. -/
@[simp] theorem completeEffect_spiTx (ans : Answer) (s : State) : (completeEffect ans s).spiTx = none := by
  obtain ⟨-, h⟩ | ⟨_, -, -, h⟩ | ⟨_, -, h⟩ := completeEffect_cases ans s <;> simp [h]

/-- A START that is not ignored abandons the transfer in flight (R151). -/
theorem startInvocation_spiTx {s : State} (a : Chan) (hst : s.st ≠ .polling) : (startInvocation a s).spiTx = none := by
  obtain ⟨hp, -⟩ | ⟨-, -, h⟩ | ⟨-, -, h⟩ := startInvocation_cases a s
  · exact absurd hp hst
  · simp [h]
  · simp [h]

section
variable {i : Instr} {s t : State} {tx : Frame}

/-- A frame held after a step was put there by ISSUE, or the step was a START that changed nothing. -/
theorem exec_spiTx_cases (h : exec i s = .next t) (htx : t.spiTx = some tx) :
    t = s ∨ s.st = .polling ∧ t = issueEffect s := by
  obtain ⟨-, rfl⟩ | ⟨a, -, rfl⟩ | ⟨-, hst, -, ht⟩ | ⟨ans, -, rfl, -⟩ := exec_cases h
  · simp at htx
  · by_cases hst : s.st = .polling
    · exact .inl (startInvocation_of_polling a hst)
    · simp [startInvocation_spiTx a hst] at htx
  · exact .inr ⟨hst, ht⟩
  · simp at htx

/-- What the SPI agent holds in a good state is the latched frame, in POLLING (R24, R61). -/
theorem State.Good.polling_of_spiTx (hgood : s.Good) (htx : s.spiTx = some tx) : s.st = .polling ∧ tx = s.cmd := by
  have hholds := hgood.coherent.spi_holds_cmd
  cases hp : s.pending
  · simp [htx, hp] at hholds
  · exact ⟨hgood.inv.pending_polling hp, by simpa [htx, hp] using hholds⟩

/-- A frame that the SPI agent holds after a step from a good state is the frame latched, in POLLING, before the step, and
the step keeps the latch. -/
theorem exec_spiTx_latched (hgood : s.Good) (h : exec i s = .next t) (htx : t.spiTx = some tx) :
    s.st = .polling ∧ tx = s.cmd ∧ t.cmd = s.cmd ∧ t.chan = s.chan := by
  obtain rfl | ⟨hst, rfl⟩ := exec_spiTx_cases h htx
  · obtain ⟨hst, hcmd⟩ := hgood.polling_of_spiTx htx
    exact ⟨hst, hcmd, rfl, rfl⟩
  · exact ⟨hst, by simpa using htx.symm, by simp, by simp⟩

end

/-- Settles O26: by clause (c) of R160 the frame latched in POLLING is that of an admitted channel. -/
theorem onlyAdmittedCommandFramesGoOut : Obligations.OnlyAdmittedCommandFramesGoOut := by
  intro i s t tx hgood h htx
  obtain ⟨hst, rfl, hcmd, hchan⟩ := exec_spiTx_latched hgood h htx
  obtain ⟨hframe, hadmit⟩ := hgood.inv.begun_latched (.inl hst)
  obtain ⟨hcfg, -⟩ := exec_keeps_surroundings h
  obtain ⟨-, -, hmask, -⟩ := commandFrameWord s.chan
  rw [hcmd, hchan, hcfg]
  refine ⟨hframe, rfl, hframe ▸ hmask, fun hhigh => ?_⟩
  exact (admit_eq_true.mp hadmit).resolve_right (by omega)

end Sys2Proof.Machine
end

section
/-! PROOFS. The Response Decoder (spec/41_response_decoder.md): the inversion of R124, `normalized` and its rounding (R125,
R126), what of a frame DECODE reads (R127, R130), and that only a final response converges (R129). -/

namespace Sys2Proof.Machine

/-! ### The inversion -/

theorem rawOf_true (pre : Raw) : rawOf true pre = pre := rfl

theorem rawOf_false (pre : Raw) : rawOf false pre = pre ^^^ 0x0FFFFFFF#28 := rfl

/-- Settles O12: subtraction from full scale gives the corner cases too. -/
theorem rawInversion : Obligations.RawInversion := fun pre =>
  ⟨rawOf_true pre, rawOf_false pre, rawOf_false_toNat pre,
   BitVec.eq_of_toNat_eq (rawOf_false_toNat _), BitVec.eq_of_toNat_eq (rawOf_false_toNat _)⟩

/-- Law (b) of R130. -/
theorem rawOf_false_rawOf_false (pre : Raw) : rawOf false (rawOf false pre) = pre := by
  rw [rawOf_false, rawOf_false, BitVec.xor_assoc, BitVec.xor_self, BitVec.xor_zero]

/-! ### `normalized` -/

/-- R125's product with the constants of R6 put in. -/
theorem normalized_eq_product (raw : Raw) :
    normalized raw = (raw.toNat : Rat) / 268435455 * (115 / 100) * 100 := by
  simp only [normalized, Nat.cast_ofNat]

theorem normalized_eq (raw : Raw) : normalized raw = (raw.toNat : Rat) * 115 / 268435455 := by
  rw [normalized_eq_product]
  ring

theorem normalized_nonneg (raw : Raw) : 0 ≤ normalized raw := by
  rw [normalized_eq]
  positivity

/-- A raw value is at most `FULL_SCALE`, which stands for 115 %. -/
theorem normalized_le (raw : Raw) : normalized raw ≤ 115 := by
  have hraw : (raw.toNat : Rat) ≤ 268435455 := by exact_mod_cast Nat.le_of_lt_succ raw.isLt
  rw [normalized_eq]
  linarith

/-- Settles O14: the three values are those of the one fraction. -/
theorem normalizedIsExactRational : Obligations.NormalizedIsExactRational := by
  refine ⟨fun raw => ⟨normalized_eq_product raw, normalized_eq raw, normalized_nonneg raw, normalized_le raw⟩, ?_⟩
  rw [normalized_eq, normalized_eq, normalized_eq]
  norm_num

/-! ### `norm_centi` -/

section
variable (raw : Raw)

/-- The quotient of R126 fits the 14 bits, since `raw` is at most `FULL_SCALE`. -/
theorem normCenti_toNat : (normCenti raw).toNat = (23000 * raw.toNat + 268435455) / 536870910 := by
  rw [normCenti_eq, BitVec.toNat_ofNat]
  omega

theorem normCenti_le : (normCenti raw).toNat ≤ 11500 := by
  rw [normCenti_toNat]
  omega

/-- No tie (R126): the left side is even, and the right side is a product of odd numbers. -/
theorem normCenti_no_tie (k : Nat) : 23000 * raw.toNat ≠ (2 * k + 1) * 268435455 := by
  omega

/-- Rounding to nearest over the naturals: the quotient's bounds, the lower one strict because there is no tie. -/
theorem normCenti_bounds :
    2 * 268435455 * (normCenti raw).toNat < 23000 * raw.toNat + 268435455 ∧
    23000 * raw.toNat < 2 * 268435455 * (normCenti raw).toNat + 268435455 := by
  rw [normCenti_toNat]
  omega

/-- Law (e) of R130: `norm_centi` is less than one half away from 100 times `normalized`, on either side. -/
theorem normCenti_near_normalized :
    ((normCenti raw).toNat : Rat) - 100 * normalized raw < 1 / 2 ∧
    100 * normalized raw - ((normCenti raw).toNat : Rat) < 1 / 2 := by
  obtain ⟨hlow, hhigh⟩ := normCenti_bounds raw
  have hlow' : 2 * 268435455 * ((normCenti raw).toNat : Rat) < 23000 * (raw.toNat : Rat) + 268435455 := by
    exact_mod_cast hlow
  have hhigh' : 23000 * (raw.toNat : Rat) < 2 * 268435455 * ((normCenti raw).toNat : Rat) + 268435455 := by
    exact_mod_cast hhigh
  rw [normalized_eq]
  constructor <;> linarith

end

theorem normCenti_mono {raw raw' : Raw} (h : raw.toNat ≤ raw'.toNat) :
    (normCenti raw).toNat ≤ (normCenti raw').toNat := by
  rw [normCenti_toNat, normCenti_toNat]
  omega

/-- Settles O15: the clauses over the rationals say that `norm_centi` is near `normalized`, and the smallest raw values come
from the lower bound of the rounding. -/
theorem normCentiRoundsToNearest : Obligations.NormCentiRoundsToNearest := by
  refine ⟨fun raw => ?_, by decide⟩
  obtain ⟨hbelow, habove⟩ := normCenti_near_normalized raw
  obtain ⟨hlow, -⟩ := normCenti_bounds raw
  refine ⟨normCenti_toNat raw, by linarith, by linarith, normCenti_le raw, by omega, normCenti_no_tie raw,
    fun raw' => normCenti_mono, fun hone => ?_, fun htwo => ?_⟩
  · rw [hone, BitVec.toNat_ofNat] at hlow
    omega
  · rw [htwo, BitVec.toNat_ofNat] at hlow
    omega

/-! ### What of a frame DECODE reads -/

section
variable {f g : Frame}

/-- The mask that shuts out the ignored bits, put on byte 0 (R74, R76). -/
theorem decodeSample_eq_of_byte0_masked_eq (h0 : f.b0 &&& 0xAF#8 = g.b0 &&& 0xAF#8) (h1 : f.b1 = g.b1)
    (h2 : f.b2 = g.b2) (h3 : f.b3 = g.b3) : decodeSample f = decodeSample g := by
  have hmask : 0xAFFFFFFF#32 = Frame.word ⟨0xAF#8, 0xFF#8, 0xFF#8, 0xFF#8⟩ := by decide
  apply decodeSample_eq_of_masked_eq
  rw [hmask, Frame.word_and, Frame.word_and, h0, h1, h2, h3]

/-- Under the mask that shuts out `EOC` a byte 0 keeps `SIGN` and its low nibble. -/
theorem byte0_mask_keeps_sign_and_nibble :
    ∀ b : Byte, (b &&& 0x7F#8).getLsbD 5 = b.getLsbD 5 ∧ (b &&& 0x7F#8).extractLsb' 0 4 = b.extractLsb' 0 4 := by
  decide

theorem sign_and_pre_eq_of_eoc_masked_eq (h0 : f.b0 &&& 0x7F#8 = g.b0 &&& 0x7F#8) (h1 : f.b1 = g.b1)
    (h2 : f.b2 = g.b2) (h3 : f.b3 = g.b3) : signFlag f = signFlag g ∧ preOf f = preOf g := by
  obtain ⟨hfsign, hfnibble⟩ := byte0_mask_keeps_sign_and_nibble f.b0
  obtain ⟨hgsign, hgnibble⟩ := byte0_mask_keeps_sign_and_nibble g.b0
  have hsign : f.b0.getLsbD 5 = g.b0.getLsbD 5 := by rw [← hfsign, h0, hgsign]
  have hnibble : f.b0.extractLsb' 0 4 = g.b0.extractLsb' 0 4 := by rw [← hfnibble, h0, hgnibble]
  exact ⟨hsign, by simp only [preOf, Frame.dField, hnibble, h1, h2, h3]⟩

/-- Law (d) of R130: `EOC` reaches the field `eoc` alone. -/
theorem decodeSample_eq_but_eoc (h0 : f.b0 &&& 0x7F#8 = g.b0 &&& 0x7F#8) (h1 : f.b1 = g.b1)
    (h2 : f.b2 = g.b2) (h3 : f.b3 = g.b3) : { decodeSample f with eoc := (decodeSample g).eoc } = decodeSample g := by
  obtain ⟨hsign, hpre⟩ := sign_and_pre_eq_of_eoc_masked_eq h0 h1 h2 h3
  simp only [decodeSample, hsign, hpre]

/-- Law (a) of R130. -/
theorem decodeSample_raw_of_sign_zero (h : f.b0.getLsbD 5 = false) :
    (decodeSample f).raw.toNat = 0x0FFFFFFF - (preOf f).toNat := by
  have hsign : signFlag f = false := h
  rw [decodeSample, hsign, rawOf_false_toNat]

end

/-- Settles O11: the fields are those of `decodeSample` by definition, and the mask 0xAF twice is the mask once. -/
theorem decodeFields : Obligations.DecodeFields := by
  refine fun rx => ⟨rfl, rfl, rfl, normCenti_toNat _, decodeSample_eq_of_byte0_masked_eq ?_ rfl rfl rfl⟩
  rw [BitVec.and_assoc, BitVec.and_self]

/-- Settles O13, law by law. -/
theorem decoderLaws : Obligations.DecoderLaws :=
  ⟨fun _ => decodeSample_raw_of_sign_zero, rawOf_false_rawOf_false, fun _ _ => decodeSample_eq_of_byte0_masked_eq,
   fun _ _ => decodeSample_eq_but_eoc, fun raw => ⟨normCenti_le raw, normCenti_near_normalized raw⟩⟩

/-! ### Only a final response converges -/

/-- The instructions that are a COMPLETE with the given answer: the step itself and the rows of format `RSP` (R75). -/
abbrev ReceivesAnswer (i : Instr) (ans : Answer) : Prop :=
  i = .complete ans ∨ ∃ f : Frame, ans = .ok f.bytes ∧ i = decodeResponse f

/-- Every instruction is one of the four steps of R150: a frame row is the ISSUE or the COMPLETE that moves its frame. -/
theorem instr_kinds (i : Instr) :
    i = .reset ∨ (∃ a, i = .start a) ∨ IssuesTransfer i ∨ ∃ ans, ReceivesAnswer i ans := by
  cases i with
  | read a => exact .inr (.inr (.inl (.inr ⟨a, .inl rfl⟩)))
  | readAlias a => exact .inr (.inr (.inl (.inr ⟨a, .inr rfl⟩)))
  | rspBusy x6 x4 sign d =>
    exact .inr (.inr (.inr ⟨_, .inr ⟨responseFrame true x6 sign x4 d, rfl, by simp [decodeResponse_of_busy]⟩⟩))
  | rspDataPos x6 x4 d =>
    exact .inr (.inr (.inr ⟨_, .inr ⟨responseFrame false x6 true x4 d, rfl, by simp [decodeResponse_of_pos]⟩⟩))
  | rspDataNeg x6 x4 d =>
    exact .inr (.inr (.inr ⟨_, .inr ⟨responseFrame false x6 false x4 d, rfl, by simp [decodeResponse_of_neg]⟩⟩))
  | reset => exact .inl rfl
  | start a => exact .inr (.inl ⟨a, rfl⟩)
  | issue => exact .inr (.inr (.inl (.inl rfl)))
  | complete ans => exact .inr (.inr (.inr ⟨ans, .inl rfl⟩))

section
variable {i : Instr} {ans : Answer} {s t : State}

theorem exec_start_next {a : Chan} : exec (.start a) s = .next t ↔ t = startInvocation a s := by
  simp [exec, execStart, eq_comm]

theorem exec_receivesAnswer (hi : ReceivesAnswer i ans) (s : State) : exec i s = completeStep ans s := by
  obtain rfl | ⟨f, rfl, rfl⟩ := hi
  · rfl
  · exact exec_decodeResponse_eq f s

/-- START does not converge: it is ignored, polls or fails. -/
theorem startInvocation_st_ne_converged (a : Chan) (hs : s.st ≠ .converged) : (startInvocation a s).st ≠ .converged := by
  obtain ⟨-, h⟩ | ⟨-, -, h⟩ | ⟨-, -, h⟩ := startInvocation_cases a s
  · rwa [h]
  · simp [h]
  · simp [h]

/-- The FSM enters CONVERGED only on an `EOC` of 0 (R129). -/
theorem eoc_of_stateAfter_converged {eoc : Bool} (hs : s.st ≠ .converged) (h : stateAfter eoc s = .converged) :
    eoc = false := by
  obtain ⟨heoc, -⟩ | ⟨-, -, hst⟩ | ⟨-, -, hst⟩ := stateAfter_cases eoc s
  · exact heoc
  · simp [hst] at h
  · exact absurd (hst ▸ h) hs

/-- The one answer that converges is a frame whose `EOC` is 0, and it is recorded (R156). -/
theorem completeEffect_converged (hs : s.st ≠ .converged) (h : (completeEffect ans s).st = .converged) :
    ∃ rx : Frame, ans = .ok rx.bytes ∧ rx.eocBit = false ∧
      completeEffect ans s = enterState .converged (recordSample rx s) := by
  obtain ⟨-, ht⟩ | ⟨_, -, -, ht⟩ | ⟨rx, hans, ht⟩ := completeEffect_cases ans s
  · simp [ht] at h
  · simp [ht] at h
  · have hst : stateAfter (decodeSample rx).eoc s = .converged := by simpa [ht] using h
    exact ⟨rx, hans, eoc_of_stateAfter_converged hs hst, hst ▸ ht⟩

/-- Of the four steps only COMPLETE enters CONVERGED. -/
theorem receivesAnswer_of_converged (h : exec i s = .next t) (hs : s.st ≠ .converged) (ht : t.st = .converged) :
    ∃ ans, ReceivesAnswer i ans ∧ s.pending = true ∧ t = completeEffect ans s := by
  obtain rfl | ⟨a, rfl⟩ | hi | ⟨ans, hi⟩ := instr_kinds i
  · simp [exec_reset_next.mp h] at ht
  · exact absurd (exec_start_next.mp h ▸ ht) (startInvocation_st_ne_converged a hs)
  · exact absurd (by simpa [exec_issuesTransfer_next hi h] using ht) hs
  · exact ⟨ans, hi, completeStep_next.mp (exec_receivesAnswer hi s ▸ h)⟩

/-- A frame is received by COMPLETE or by the row it decodes to. -/
theorem receivesAnswer_frame {rx : Frame} (hi : ReceivesAnswer i (.ok rx.bytes)) :
    i = .complete (.ok rx.bytes) ∨ i = decodeResponse rx := by
  refine hi.imp_right ?_
  rintro ⟨f, hf, rfl⟩
  rw [Frame.bytes_injective (Answer.ok.inj hf)]

end

/-- Settles O42: the step is a COMPLETE, its answer is a final frame, and `recordSample` writes its decoding. -/
theorem onlyFinalResponseConverges : Obligations.OnlyFinalResponseConverges := by
  intro i s t h hs ht
  obtain ⟨ans, hi, hp, rfl⟩ := receivesAnswer_of_converged h hs ht
  obtain ⟨rx, rfl, heoc, heffect⟩ := completeEffect_converged hs ht
  rw [heffect]
  exact ⟨hp, heoc, rfl, rfl, receivesAnswer_frame hi⟩

end Sys2Proof.Machine
end


section
/-! PROOFS. The polling FSM (spec/42_polling_fsm.md): the effect of each step (R151 to R158), the transition table (R165),
that every step keeps the invariants of R160, what a step runs (R150, R164), and how long polling lasts (R163). -/

namespace Sys2Proof.Machine

/-! ### START -/

section
variable {a : Chan} {s : State}

/-- START of an admitted address begins an invocation (R151). -/
theorem startInvocation_of_admitted (hst : s.st ≠ .polling) (ha : admits s.cfg.addrPolicy a = true) :
    startInvocation a s = { clearInvocation a s with cmd := commandFrame a, err := .none, st := .polling } := by
  obtain ⟨hp, -⟩ | ⟨-, -, h⟩ | ⟨-, hrefused, -⟩ := startInvocation_cases a s
  · exact absurd hp hst
  · exact h
  · simp [ha] at hrefused

end

/-- Settles O18: the two cases of ADMIT, each with the state that START then writes. -/
theorem startBeginsInvocation : Obligations.StartBeginsInvocation := by
  refine fun a s hst => ⟨fun hnot => ?_, fun hrefused => ?_⟩
  · have hadmit : admits s.cfg.addrPolicy a = true := by
      simpa using mt admit_eq_false.mp hnot
    exact exec_start_next.mpr (startInvocation_of_admitted hst hadmit).symm
  · exact exec_start_next.mpr (startInvocation_of_refused hst (admit_eq_false.mpr hrefused)).symm

/-- Settles O19. -/
theorem startIgnoredWhilePolling : Obligations.StartIgnoredWhilePolling := fun a _ hst =>
  exec_start_next.mpr (startInvocation_of_polling a hst).symm

/-- Settles O20: the state that START writes outside POLLING names no field of the old one but its surroundings. -/
theorem startForgetsThePast : Obligations.StartForgetsThePast := by
  intro a s s' hst hst' hcfg hmoves hdraws
  obtain ⟨hbegun, hrefused⟩ := startBeginsInvocation a s hst
  obtain ⟨hbegun', hrefused'⟩ := startBeginsInvocation a s' hst'
  by_cases ha : s.cfg.addrPolicy = .reject ∧ 8 ≤ a.toNat
  · rw [hrefused ha, hrefused' (hcfg ▸ ha), hcfg, hmoves, hdraws]
  · rw [hbegun ha, hbegun' (hcfg ▸ ha), hcfg, hmoves, hdraws]

/-! ### ISSUE -/

/-- Settles O22: `issueEffect` is the state R153 writes, and ISSUE answers it exactly where it is enabled. -/
theorem issueSendsLatchedFrame : Obligations.IssueSendsLatchedFrame := by
  refine fun s => ⟨fun ⟨hst, hp⟩ => issueStep_next.mpr ⟨hst, hp, rfl⟩, fun hnot t h => ?_⟩
  obtain ⟨hst, hp, -⟩ := issueStep_next.mp h
  exact hnot ⟨hst, hp⟩

/-! ### COMPLETE -/

section
variable {s : State} {eoc : Bool}

theorem exec_complete_next {ans : Answer} {t : State} :
    exec (.complete ans) s = .next t ↔ s.pending = true ∧ t = completeEffect ans s := completeStep_next

/-- A response that is no frame is a `FRAMING` error (R155). -/
theorem completeEffect_of_length_ne {bytes : List Byte} (h : bytes.length ≠ 4) :
    completeEffect (.ok bytes) s = raiseFailed .framing s := by
  simp [completeEffect, Frame.ofBytes_eq_none.mpr h]

theorem stateAfter_final : stateAfter false s = .converged := rfl

theorem stateAfter_busy_at_bound (h : boundReached s.cfg.maxTransfers s.xfers = true) :
    stateAfter true s = .timedOut := by
  simp [stateAfter, h]

theorem stateAfter_busy_below_bound (h : boundReached s.cfg.maxTransfers s.xfers = false) :
    stateAfter true s = s.st := by
  simp [stateAfter, h]

/-- COMPLETE with a frame, its `EOC` read as bit 7 of byte 0: the whole next state of R159. -/
theorem exec_complete_frame {rx : Frame} (hp : s.pending = true) (heoc : rx.b0.getLsbD 7 = eoc) :
    exec (.complete (.ok rx.bytes)) s = .next
      { s with
        st := stateAfter eoc s, pending := false, spiTx := none, smpHave := true, smpEoc := eoc,
        smpSign := rx.b0.getLsbD 5, smpRaw := (decodeSample rx).raw, smpNorm := (decodeSample rx).norm,
        lastRx := rx } := by
  subst heoc
  exact exec_complete_next.mpr ⟨hp, rfl⟩

/-- No error is recorded in POLLING: clause (b) of R160. -/
theorem State.Inv.err_none_of_polling (hinv : s.Inv) (hst : s.st = .polling) : s.err = .none := by
  by_contra hne
  simpa [hst] using hinv.err_iff_failed.mp hne

end

/-- Settles O27. -/
theorem completeIoErrorFails : Obligations.CompleteIoErrorFails := fun _ hp =>
  exec_complete_next.mpr ⟨hp, rfl⟩

/-- Settles O28: bytes that are no frame raise `FRAMING`; a frame leaves `err` as it is. -/
theorem completeWrongLengthFails : Obligations.CompleteWrongLengthFails := by
  refine ⟨fun s bytes hp hlen => ?_, fun s t bytes hlen h herr => ?_⟩
  · exact exec_complete_next.mpr ⟨hp, (completeEffect_of_length_ne hlen).symm⟩
  · obtain ⟨rx, rfl⟩ := Frame.exists_of_length hlen
    obtain ⟨-, rfl⟩ := exec_complete_next.mp h
    simpa [completeEffect_ok_bytes] using herr

/-- Settles O29: an `EOC` of 0 converges without the bound; the three decodings are closed. -/
theorem completeConverges : Obligations.CompleteConverges :=
  ⟨fun _ _ hp heoc => exec_complete_frame hp heoc, by decide, by decide, by decide⟩

/-- Settles O30: below the bound `st` stays, so in POLLING the answered transfer enables ISSUE. -/
theorem completeBusyKeepsPolling : Obligations.CompleteBusyKeepsPolling := by
  intro s rx hp heoc hbelow
  have hnext := exec_complete_frame hp heoc
  rw [stateAfter_busy_below_bound (boundReached_eq_false.mpr hbelow)] at hnext
  refine ⟨hnext, fun hst t h => ?_⟩
  obtain rfl := Host.Outcome.next.inj (hnext.symm.trans h)
  exact ⟨_, issueStep_next.mpr ⟨hst, rfl, rfl⟩⟩

/-- Settles O31: by clauses (a), (b) and (f) of R160 the block is in POLLING, without an error, and at most at the bound. -/
theorem completeBusyTimesOut : Obligations.CompleteBusyTimesOut := by
  intro s rx n hp heoc hn hle
  have hnext := exec_complete_frame hp heoc
  rw [stateAfter_busy_at_bound (boundReached_eq_true.mpr ⟨n, hn, hle⟩)] at hnext
  refine ⟨hnext, fun hinv => ?_⟩
  have hst := hinv.pending_polling hp
  have herr := hinv.err_none_of_polling hst
  exact ⟨herr, BitVec.eq_of_toNat_eq (Nat.le_antisymm (hinv.xfers_bounded n hn) hle), by rw [herr]; rfl⟩

/-! ### Every step keeps the invariants (R160) -/

section
variable {s : State}

/-- A legal bound is not reached before the first transfer (R7). -/
theorem boundReached_zero_of_legal {m : MaxTransfers} (h : m.legal = true) : boundReached m 0#32 = false := by
  refine boundReached_eq_false.mpr fun n hn => ?_
  subst hn
  have hne : n ≠ 0#32 := by simpa [MaxTransfers.legal] using h
  bv_omega

/-- Good states do not depend on what is offered or how often an answer was drawn. -/
theorem State.Good.of_surroundings (hgood : s.Good) (moves : List Offer) (draws : Nat) :
    ({ s with moves := moves, draws := draws } : State).Good := by
  obtain ⟨hinv, hcoh⟩ := hgood
  obtain ⟨ha, hb, hc, hd, he, hf, hg, hh, hi⟩ := hinv
  obtain ⟨hlegal, hspi, hcounted, hhave, hdecoded, hcleared, hbusy, hrecord, hrefused⟩ := hcoh
  refine ⟨⟨ha, hb, hc, hd, he, hf, fun hst => ?_, hh, hi⟩,
    ⟨hlegal, hspi, hcounted, hhave, hdecoded, hcleared, hbusy, hrecord, hrefused⟩⟩
  exact congrArg (fun t : State => { t with moves := moves, draws := draws }) (hg hst)

theorem State.countOk_iff : s.countOk = true ↔ ∀ n, s.cfg.maxTransfers = .bounded n → s.xfers.toNat ≤ n.toNat := by
  unfold State.countOk
  split <;> simp [*]

theorem resetBlock_resetBlock : resetBlock (resetBlock s) = resetBlock s := rfl

/-- RESET leaves a good state under any legal parameters: every record is cleared. -/
theorem resetBlock_good (hlegal : s.cfg.maxTransfers.legal = true) : (resetBlock s).Good :=
  State.good_of_check (by simp [State.InvCheck, State.countOk_iff, resetBlock_resetBlock])
    (by simp [State.CoherentCheck, hlegal])

/-- START keeps the invariants: a new invocation is below any legal bound, and a refused address leaves the record of R202. -/
theorem startInvocation_good (hgood : s.Good) (a : Chan) : (startInvocation a s).Good := by
  have hlegal := hgood.coherent.params_legal
  obtain ⟨-, h⟩ | ⟨-, hadmit, h⟩ | ⟨-, hrefused, h⟩ := startInvocation_cases a s
  · rwa [h]
  · rw [h]
    exact State.good_of_check (by simp [State.InvCheck, State.countOk_iff, hadmit, boundReached_zero_of_legal hlegal])
      (by simp [State.CoherentCheck, hlegal])
  · rw [h]
    exact State.good_of_check (by simp [State.InvCheck, State.countOk_iff])
      (by simp [State.CoherentCheck, hlegal, hrefused])

/-- ISSUE keeps the invariants: below the bound one more transfer is at most at it. -/
theorem issueEffect_good (hgood : s.Good) (hst : s.st = .polling) (hp : s.pending = false) :
    (issueEffect s).Good := by
  obtain ⟨hinv, hcoh⟩ := hgood
  have herr := hinv.err_none_of_polling hst
  have hlatched := hinv.begun_latched (.inl hst)
  have hbelow := boundReached_eq_false.mp (hinv.polling_below_bound hst hp)
  have hcounted : 1 ≤ (countTransfer s.xfers).toNat := by
    rw [countTransfer_toNat]
    omega
  have hbounded : (issueEffect s).countOk = true := State.countOk_iff.mpr fun n hn => by
    have hlt := hbelow n hn
    rw [issueEffect_xfers, countTransfer_toNat]
    omega
  exact State.good_of_check (by simp [State.InvCheck, hst, herr, hlatched, hbounded])
    ⟨hcoh.params_legal, by simp, fun _ => hcounted, fun _ => hcounted, hcoh.sample_decoded, hcoh.sample_cleared,
      hcoh.polling_busy, by simp [herr], by simp [herr]⟩

/-- A failed transfer keeps the record of the invocation: the latch, the counter and the samples (R202). -/
theorem raiseFailed_good (hgood : s.Good) (hp : s.pending = true) {k : ErrKind} (hk : k = .deviceIo ∨ k = .framing) :
    (raiseFailed k s).Good := by
  obtain ⟨hinv, hcoh⟩ := hgood
  obtain ⟨hcmd, hadmit⟩ := hinv.begun_latched (.inl (hinv.pending_polling hp))
  have hcounted := hcoh.pending_counted hp
  have hnone : k ≠ .none := by rintro rfl; simp at hk
  have haddress : k ≠ .address := by rintro rfl; simp at hk
  have hbounded : (raiseFailed k s).countOk = true := State.countOk_iff.mpr hinv.xfers_bounded
  exact State.good_of_check (by simp [State.InvCheck, hnone, haddress, hbounded])
    ⟨hcoh.params_legal, by simp, by simp, fun _ => hcounted, hcoh.sample_decoded, hcoh.sample_cleared,
      by simp, fun _ => ⟨hcmd, hadmit, hcounted⟩, by simp [haddress]⟩

/-- A recorded response is its own decoding, and leaves POLLING unless it is busy. -/
theorem recordSample_coherent (hgood : s.Good) (hp : s.pending = true) {rx : Frame} {m : FsmState}
    (hm : m = .polling → (decodeSample rx).eoc = true) : (enterState m (recordSample rx s)).CoherentCheck := by
  have herr := hgood.inv.err_none_of_polling (hgood.inv.pending_polling hp)
  have hcounted := hgood.coherent.pending_counted hp
  exact ⟨hgood.coherent.params_legal, by simp, by simp, fun _ => hcounted, fun _ => rfl, by simp, fun hst _ => hm hst,
    by simp [herr], by simp [herr]⟩

/-- A recorded response keeps the invariants: it converges on an `EOC` of 0, times out at the bound, and polls on below it. -/
theorem recordSample_good (hgood : s.Good) (hp : s.pending = true) (rx : Frame) :
    (enterState (stateAfter (decodeSample rx).eoc s) (recordSample rx s)).Good := by
  have hinv := hgood.inv
  have hst := hinv.pending_polling hp
  have herr := hinv.err_none_of_polling hst
  have hlatched := hinv.begun_latched (.inl hst)
  have hbounded (m : FsmState) : (enterState m (recordSample rx s)).countOk = true :=
    State.countOk_iff.mpr hinv.xfers_bounded
  obtain ⟨heoc, h⟩ | ⟨heoc, hbound, h⟩ | ⟨heoc, hbound, h⟩ := stateAfter_cases (decodeSample rx).eoc s
  · have hcounted := hgood.coherent.pending_counted hp
    rw [h]
    exact State.good_of_check (by simp [State.InvCheck, herr, hlatched, heoc, hcounted, hbounded])
      (recordSample_coherent hgood hp nofun)
  · obtain ⟨n, hn, hle⟩ := boundReached_eq_true.mp hbound
    have hat : n = s.xfers := BitVec.eq_of_toNat_eq (Nat.le_antisymm hle (hinv.xfers_bounded n hn))
    rw [h]
    exact State.good_of_check (by simp [State.InvCheck, herr, hlatched, heoc, hn, hat, hbounded])
      (recordSample_coherent hgood hp nofun)
  · rw [h, hst]
    exact State.good_of_check (by simp [State.InvCheck, herr, hlatched, hbound, hbounded])
      (recordSample_coherent hgood hp fun _ => heoc)

/-- COMPLETE keeps the invariants, in each of its three cases. -/
theorem completeEffect_good (hgood : s.Good) (hp : s.pending = true) (ans : Answer) : (completeEffect ans s).Good := by
  obtain ⟨-, h⟩ | ⟨_, -, -, h⟩ | ⟨rx, -, h⟩ := completeEffect_cases ans s
  · rw [h]
    exact raiseFailed_good hgood hp (.inl rfl)
  · rw [h]
    exact raiseFailed_good hgood hp (.inr rfl)
  · rw [h]
    exact recordSample_good hgood hp rx

/-- Every instruction keeps the invariants: it is one of the four steps of R150. -/
theorem exec_good {i : Instr} {t : State} (hgood : s.Good) (h : exec i s = .next t) : t.Good := by
  obtain ⟨-, rfl⟩ | ⟨a, -, rfl⟩ | ⟨-, hst, hp, rfl⟩ | ⟨ans, hp, rfl, -⟩ := exec_cases h
  · exact resetBlock_good hgood.coherent.params_legal
  · exact startInvocation_good hgood a
  · exact issueEffect_good hgood hst hp
  · exact completeEffect_good hgood hp ans

/-- Fetching a move changes the surroundings alone. -/
theorem fetch_good {s' : State} {r : Except DecodeError Instr} (hgood : s.Good) (h : fetch s = some (r, s')) :
    s'.Good := by
  obtain ⟨_, rest, -, -, rfl⟩ | ⟨-, -, -, -, rfl⟩ | ⟨-, -, -, rfl⟩ := fetch_cases h
  · exact hgood.of_surroundings rest s.draws
  · exact hgood
  · exact hgood.of_surroundings s.moves (s.draws + 1)

/-- Runs of R150 start good and stay good. -/
theorem State.Reachable.good (h : s.Reachable) : s.Good := by
  induction h with
  | reset s hlegal => exact resetBlock_good hlegal
  | step i s t _ hexec ih => exact exec_good ih hexec

end

/-- Settles O47: what is fetched is run from a good state. -/
theorem stepKeepsGood : Obligations.StepKeepsGood := by
  intro s t hgood h
  obtain ⟨i, s', hfetch, hexec⟩ := step_next h
  exact exec_good (fetch_good hgood hfetch) hexec

/-- Settles O45. -/
theorem reachableStatesMeetInvariants : Obligations.ReachableStatesMeetInvariants := fun _ h => h.good.inv

/-- Settles O46: `State.reset` is its own RESET. -/
theorem resetStateIsGood : Obligations.ResetStateIsGood := by
  refine ⟨fun s t hlegal h => ?_, resetBlock_good (s := State.reset) rfl⟩
  rw [exec_reset_next.mp h]
  exact resetBlock_good hlegal

/-! ### The transition table (R165) and the end of an invocation (R162) -/

section
variable {s : State}

/-- Clause (a) of R160, read outside POLLING. -/
theorem State.Inv.not_pending (hinv : s.Inv) (hst : s.st ≠ .polling) : s.pending = false := by
  simpa using mt hinv.pending_polling hst

theorem State.terminal.not_polling (hend : s.terminal) : s.st ≠ .polling := by
  rintro hst
  simp [State.terminal, hst] at hend

end

section
variable {a : Chan} {s : State}

/-- The rows of START outside POLLING. -/
theorem exec_start_rows (hst : s.st ≠ .polling) :
    (admits s.cfg.addrPolicy a = true → ∃ t, exec (.start a) s = .next t ∧ t.st = .polling ∧ t.pending = false) ∧
    (admits s.cfg.addrPolicy a = false →
      ∃ t, exec (.start a) s = .next t ∧ t.st = .failed ∧ t.err = .address ∧ t.pending = false) := by
  refine ⟨fun ha => ⟨startInvocation a s, rfl, ?_⟩, fun ha => ⟨startInvocation a s, rfl, ?_⟩⟩
  · simp [startInvocation_of_admitted hst ha]
  · simp [startInvocation_of_refused hst ha]

/-- The rows of COMPLETE with a 4-byte response. -/
theorem exec_complete_frame_rows (hst : s.st = .polling) (hp : s.pending = true) (rx : Frame) :
    ∃ t, exec (.complete (.ok rx.bytes)) s = .next t ∧ t.pending = false ∧
      (rx.b0.getLsbD 7 = false → t.st = .converged) ∧
      (rx.b0.getLsbD 7 = true → boundReached s.cfg.maxTransfers s.xfers = true → t.st = .timedOut) ∧
      (rx.b0.getLsbD 7 = true → boundReached s.cfg.maxTransfers s.xfers = false → t.st = .polling) := by
  refine ⟨_, exec_complete_frame hp rfl, rfl, fun heoc => ?_, fun heoc hbound => ?_, fun heoc hbound => ?_⟩
  · rw [heoc, stateAfter_final]
  · rw [heoc, stateAfter_busy_at_bound hbound]
  · rw [heoc, stateAfter_busy_below_bound hbound, hst]

end

/-- Settles O37, row by row: by clause (a) of R160 a pending transfer is in POLLING, and ISSUE and COMPLETE answer only where
they are enabled. -/
theorem transitionTable : Obligations.TransitionTable := by
  intro s hinv
  obtain ⟨hissue, hissue_only⟩ := issueSendsLatchedFrame s
  obtain ⟨hframing, -⟩ := completeWrongLengthFails
  refine ⟨⟨resetBlock s, rfl, rfl, rfl⟩, fun a hst => ⟨hinv.not_pending hst, exec_start_rows hst⟩,
    fun a => startIgnoredWhilePolling a s, fun hst hp => ⟨_, hissue ⟨hst, hp⟩, hst, rfl⟩, fun hp => ?_,
    hissue_only, fun hp ans t h => ?_⟩
  · have hst := hinv.pending_polling hp
    exact ⟨hst, ⟨_, completeIoErrorFails s hp, rfl, rfl, rfl⟩,
      fun bytes hlen => ⟨_, hframing s bytes hp hlen, rfl, rfl, rfl⟩, exec_complete_frame_rows hst hp⟩
  · obtain ⟨hpending, -⟩ := exec_complete_next.mp h
    simp [hp] at hpending

/-! ### What a step runs (R150, R164) -/

section
variable {s : State}

theorem step_of_offer {o : Offer} {rest : List Offer} {i : Instr} (hm : s.moves = o :: rest) (hi : decode o = .ok i) :
    step s = exec i { s with moves := rest } := by
  simp [step, fetch, hm, hi]

theorem step_of_undecodable {o : Offer} {rest : List Offer} {e : DecodeError} (hm : s.moves = o :: rest)
    (he : decode o = .error e) : step s = .refused (.undecodable e) := by
  simp [step, fetch, hm, he]

/-- The FSM owes its ISSUE where it is enabled. -/
theorem step_of_issue_owed (hm : s.moves = []) (hst : s.st = .polling) (hp : s.pending = false) :
    step s = exec .issue s := by
  simp [step, fetch, hm, (issueEnabled_iff s).mpr ⟨hst, hp⟩]

/-- The SPI agent owes the answer to a pending transfer. -/
theorem step_of_answer_owed (hm : s.moves = []) (hp : s.pending = true) :
    step s = exec (.complete (Config.spiAnswer s.draws)) { s with draws := s.draws + 1 } := by
  simp [step, fetch, hm, issueEnabled, hp]

/-- The host owes nothing, so elsewhere no move comes. -/
theorem step_of_nothing_owed (hm : s.moves = []) (hst : s.st ≠ .polling) (hp : s.pending = false) :
    step s = .fault .awaitsHost := by
  simp [step, fetch, hm, issueEnabled, hst, hp]

theorem step_next_of_issue_owed (hm : s.moves = []) (hst : s.st = .polling) (hp : s.pending = false) :
    step s = .next (issueEffect s) :=
  (step_of_issue_owed hm hst hp).trans (issueStep_next.mpr ⟨hst, hp, rfl⟩)

theorem step_next_of_answer_owed (hm : s.moves = []) (hp : s.pending = true) :
    step s = .next (completeEffect (Config.spiAnswer s.draws) { s with draws := s.draws + 1 }) :=
  (step_of_answer_owed hm hp).trans (exec_complete_next.mpr ⟨hp, rfl⟩)

end

/-- Settles O52. -/
theorem stepRunsDecodedInstruction : Obligations.StepRunsDecodedInstruction :=
  ⟨fun _ _ _ _ => step_of_offer, fun _ _ _ _ => step_of_undecodable, fun _ => step_of_issue_owed,
   fun _ => step_of_answer_owed⟩

/-- Settles O51: where a move is owed it is enabled, so step answers a next state and does not wait. -/
theorem pollingIsNeverAnEnd : Obligations.PollingIsNeverAnEnd := by
  refine fun s hm => ⟨fun hst hp => ?_, fun hp => ?_, fun hwaits => ?_, fun ⟨hst, hp⟩ => step_of_nothing_owed hm hst hp⟩
  · exact ⟨_, step_next_of_issue_owed hm hst hp, issueStep_next.mpr ⟨hst, hp, rfl⟩⟩
  · exact ⟨_, _, step_next_of_answer_owed hm hp, exec_complete_next.mpr ⟨hp, rfl⟩⟩
  · cases hp : s.pending with
    | true => simp [step_next_of_answer_owed hm hp] at hwaits
    | false =>
      refine ⟨fun hst => ?_, rfl⟩
      simp [step_next_of_issue_owed hm hst hp] at hwaits

/-- Settles O41: outside POLLING neither ISSUE nor COMPLETE is enabled, by clause (a) of R160. -/
theorem terminalStatesLeftOnlyByHost : Obligations.TerminalStatesLeftOnlyByHost := by
  intro s hinv hend
  have hst := hend.not_polling
  have hp := hinv.not_pending hst
  refine ⟨fun i t h => ?_, fun hm => step_of_nothing_owed hm hst hp⟩
  obtain ⟨hi, -⟩ | ⟨a, hi, -⟩ | ⟨-, hpolling, -⟩ | ⟨ans, hpending, -⟩ := exec_cases h
  · exact .inl hi
  · exact .inr ⟨a, hi⟩
  · exact absurd hpolling hst
  · simp [hp] at hpending

/-! ### The result (R161) -/

section
variable {s : State}

/-- Only CONVERGED has a sample as its result, and it is the stored one. -/
theorem result_eq_sample_iff {sign : Bool} {raw : Raw} {norm : BitVec 14} :
    s.result = .sample sign raw norm ↔
      s.st = .converged ∧ s.smpSign = sign ∧ s.smpRaw = raw ∧ s.smpNorm = norm := by
  cases hst : s.st <;> simp [State.result, hst]

/-- In CONVERGED the stored sample is the decoding of a final response: clause (d) of R160 and R28. -/
theorem State.Good.decoded_of_converged (hgood : s.Good) (hst : s.st = .converged) :
    decodeSample s.lastRx = ⟨false, s.smpSign, s.smpRaw, s.smpNorm⟩ := by
  obtain ⟨hhave, heoc, -⟩ := hgood.inv.converged_sample hst
  rw [hgood.coherent.sample_decoded hhave, heoc]

/-- FAILED records one of the three errors: clause (b) of R160. -/
theorem State.Inv.err_of_failed (hinv : s.Inv) (hst : s.st = .failed) :
    s.err = .deviceIo ∨ s.err = .framing ∨ s.err = .address := by
  have hne := hinv.err_iff_failed.mpr hst
  cases herr : s.err with
  | none => exact absurd herr hne
  | deviceIo => exact .inl rfl
  | framing => exact .inr (.inl rfl)
  | address => exact .inr (.inr rfl)

/-- The `norm_centi` of a decoded sample is that of its magnitude (R127). -/
theorem norm_eq_of_decodeSample {rx : Frame} {eoc sign : Bool} {raw : Raw} {norm : BitVec 14}
    (h : decodeSample rx = ⟨eoc, sign, raw, norm⟩) : norm = normCenti raw := by
  cases h
  rfl

end

/-- Settles O59: a reachable state is good, and a good CONVERGED state holds the decoding of `last_rx`. -/
theorem resultIsDecodedFinalResponse : Obligations.ResultIsDecodedFinalResponse := by
  intro s hreach
  have hgood := hreach.good
  refine ⟨fun sign raw norm h => ?_, fun hvalid sign raw norm h => ?_, fun hst => ?_, fun hst => ?_, fun hst => ?_,
    fun hst => ?_⟩
  · obtain ⟨hst, rfl, rfl, rfl⟩ := result_eq_sample_iff.mp h
    have hdecoded := hgood.decoded_of_converged hst
    have hnorm := norm_eq_of_decodeSample hdecoded
    exact ⟨(valid_iff s).mpr hst, congrArg Sample.eoc hdecoded, hdecoded, hnorm, hnorm ▸ normCenti_le s.smpRaw⟩
  · have hst := (result_eq_sample_iff.mp h).1
    simp [(valid_iff s).mpr hst] at hvalid
  · exact result_eq_sample_iff.mpr ⟨hst, rfl, rfl, rfl⟩
  · simp [State.result, hst]
  · exact ⟨by simp [State.result, hst], hgood.inv.err_of_failed hst⟩
  · obtain hst | hst := hst <;> simp [State.result, hst]

/-! ### How long polling lasts (R163) -/

/-- One round of polling: ISSUE, then the COMPLETE with its answer. -/
def pollRound (ans : Answer) (s : State) : State := completeEffect ans (issueEffect s)

section
variable {ans : Answer} {s : State}

@[simp] theorem pollRound_frame :
    (pollRound ans s).cmd = s.cmd ∧ (pollRound ans s).xfers = countTransfer s.xfers ∧
    (pollRound ans s).cfg = s.cfg ∧ (pollRound ans s).moves = s.moves ∧ (pollRound ans s).pending = false := by
  simp [pollRound]

/-- The two steps of a round, where they are the next moves offered. -/
theorem run_pollRound {rest : List Offer} (hst : s.st = .polling) (hp : s.pending = false)
    (hm : s.moves = .fsmIssue :: .spiComplete ans :: rest) (k : Nat) :
    Host.Core.run Sys2Proof.core (k + 2) s =
      Host.Core.run Sys2Proof.core k (pollRound ans { s with moves := rest }) := by
  have hissue : step s = .next (issueEffect { s with moves := .spiComplete ans :: rest }) :=
    (step_of_offer hm rfl).trans (issueStep_next.mpr ⟨hst, hp, rfl⟩)
  have hcomplete : step (issueEffect { s with moves := .spiComplete ans :: rest }) =
      .next (pollRound ans { s with moves := rest }) :=
    (step_of_offer rfl rfl).trans (exec_complete_next.mpr ⟨rfl, rfl⟩)
  rw [run_succ_of_next _ hissue, run_succ_of_next _ hcomplete]

/-- An answered transfer ends the invocation, or the FSM polls on below the bound (R159). -/
theorem completeEffect_ends_or_polls (ans : Answer) (hst : s.st = .polling) :
    (completeEffect ans s).terminal ∨
    (completeEffect ans s).st = .polling ∧ boundReached s.cfg.maxTransfers s.xfers = false := by
  obtain ⟨-, h⟩ | ⟨_, -, -, h⟩ | ⟨rx, -, h⟩ := completeEffect_cases ans s
  · exact .inl (.inr (.inr (by simp [h])))
  · exact .inl (.inr (.inr (by simp [h])))
  · obtain ⟨-, hm⟩ | ⟨-, -, hm⟩ | ⟨-, hbelow, hm⟩ := stateAfter_cases (decodeSample rx).eoc s
    · exact .inl (.inl (by simp [h, hm]))
    · exact .inl (.inr (.inl (by simp [h, hm])))
    · exact .inr ⟨by simp [h, hm, hst], hbelow⟩

/-- A busy answer never ends an unbounded invocation (R157). -/
theorem pollRound_busy_st {f : Frame} (hcfg : s.cfg.maxTransfers = .unbounded) (heoc : f.b0.getLsbD 7 = true) :
    (pollRound (.ok f.bytes) s).st = s.st := by
  have heoc' : (decodeSample f).eoc = true := heoc
  have hbelow : boundReached (issueEffect s).cfg.maxTransfers (issueEffect s).xfers = false := by
    simp [hcfg, boundReached]
  rw [pollRound, completeEffect_ok_bytes, heoc', stateAfter_busy_below_bound hbelow]
  rfl

/-- Below a bound the counter does not saturate. -/
theorem countTransfer_toNat_of_lt {n x : BitVec 32} (h : x.toNat < n.toNat) : (countTransfer x).toNat = x.toNat + 1 := by
  rw [countTransfer_toNat]
  omega

end

/-- Settles O48, by induction on the answers: a round ends the invocation, or one transfer fewer is left. -/
theorem boundedPollingTerminates : Obligations.BoundedPollingTerminates := by
  intro n answers
  induction answers with
  | nil =>
    intro s _ _ _ hlt hlen _
    simp only [List.length_nil] at hlen
    omega
  | cons ans rest ih =>
    intro s hcfg hst hp hlt hlen hm
    have hround := run_pollRound hst hp hm
    have hcount := countTransfer_toNat_of_lt hlt
    obtain hend | ⟨hpolls, hbelow⟩ :=
      completeEffect_ends_or_polls ans (s := issueEffect { s with moves := pollSchedule rest }) hst
    · exact ⟨1, _, by omega, hround 0, hend⟩
    · have hlt' := boundReached_eq_false.mp hbelow n hcfg
      simp only [issueEffect_xfers] at hlt'
      simp only [List.length_cons] at hlen
      obtain ⟨k, t, hk, hrun, hend⟩ := ih (pollRound ans { s with moves := pollSchedule rest })
        (by simp [hcfg]) hpolls (by simp) (by simpa using hlt') (by simp only [pollRound_frame]; omega) (by simp)
      simp only [pollRound_frame] at hk
      exact ⟨k + 1, t, by omega, (hround (2 * k)).trans hrun, hend⟩

/-- Settles O50, by induction on the busy frames: each round comes back to POLLING with nothing pending. -/
theorem unboundedBusyNeverEnds : Obligations.UnboundedBusyNeverEnds := by
  intro busyFrames
  induction busyFrames with
  | nil => exact fun s _ hst hp _ hm => ⟨s, rfl, hst, hp, hm, rfl⟩
  | cons f rest ih =>
    intro s hcfg hst hp hbusy hm
    obtain ⟨hf, hrest⟩ := List.forall_mem_cons.mp hbusy
    obtain ⟨t, hrun, hpolls, hp', hm', hcmd⟩ := ih
      (pollRound (.ok f.bytes) { s with moves := pollSchedule (rest.map fun f => .ok f.bytes) })
      (by simp [hcfg]) ((pollRound_busy_st hcfg hf).trans hst) (by simp) hrest (by simp)
    exact ⟨t, (run_pollRound hst hp hm _).trans hrun, hpolls, hp', hm', by simpa using hcmd⟩

/-! ### A bounded run left alone -/

/-- The block polls under the bound `n` with no move offered, and has a transfer to issue or one to be answered. -/
structure State.PollsAlone (n : BitVec 32) (s : State) : Prop where
  bounded : s.cfg.maxTransfers = .bounded n
  polling : s.st = .polling
  no_moves : s.moves = []
  counted : s.xfers.toNat ≤ n.toNat
  may_issue : s.pending = false → s.xfers.toNat < n.toNat

/-- The steps left before the bound: two for each transfer left to issue, and one for a pending answer. -/
def stepsLeft (n : BitVec 32) (s : State) : Nat := 2 * (n.toNat - s.xfers.toNat) + s.pending.toNat

section
variable {n : BitVec 32} {s : State}

theorem State.PollsAlone.stepsLeft_pos (h : s.PollsAlone n) : 0 < stepsLeft n s := by
  cases hp : s.pending with
  | true => simp [stepsLeft, hp]
  | false =>
    have hlt := h.may_issue hp
    rw [stepsLeft]
    omega

/-- One step alone ends the invocation, or polls on with fewer steps left. -/
theorem State.PollsAlone.ends_or_goes_on (h : s.PollsAlone n) :
    ∃ t, step s = .next t ∧ (t.terminal ∨ t.PollsAlone n ∧ stepsLeft n t < stepsLeft n s) := by
  cases hp : s.pending with
  | true =>
    refine ⟨_, step_next_of_answer_owed h.no_moves hp, ?_⟩
    obtain hend | ⟨hpolls, hbelow⟩ := completeEffect_ends_or_polls (Config.spiAnswer s.draws)
      (s := { s with draws := s.draws + 1 }) h.polling
    · exact .inl hend
    · have hlt : s.xfers.toNat < n.toNat := boundReached_eq_false.mp hbelow n h.bounded
      exact .inr ⟨⟨by simp [h.bounded], hpolls, by simp [h.no_moves], by simp [h.counted], by simp [hlt]⟩,
        by simp [stepsLeft, hp]⟩
  | false =>
    have hlt := h.may_issue hp
    have hcount := countTransfer_toNat_of_lt hlt
    refine ⟨_, step_next_of_issue_owed h.no_moves h.polling hp, .inr ⟨⟨h.bounded, h.polling, h.no_moves, ?_, ?_⟩, ?_⟩⟩
    · rw [issueEffect_xfers]
      omega
    · simp
    · simp only [stepsLeft, issueEffect_xfers, issueEffect_pending, hp, Bool.toNat_true, Bool.toNat_false]
      omega

/-- Left alone, the run ends within the steps left, by induction on a bound of them. -/
theorem State.PollsAlone.terminates (m : Nat) (h : s.PollsAlone n) (hm : stepsLeft n s ≤ m) :
    ∃ k t, k ≤ m ∧ Host.Core.run Sys2Proof.core k s = .next t ∧ t.terminal := by
  induction m generalizing s with
  | zero => exact absurd hm (Nat.not_le.mpr h.stepsLeft_pos)
  | succ m ih =>
    obtain ⟨t, hstep, hend | ⟨halone, hfewer⟩⟩ := h.ends_or_goes_on
    · exact ⟨1, t, by omega, run_succ_of_next 0 hstep, hend⟩
    · obtain ⟨k, u, hk, hrun, hend⟩ := ih halone (by omega)
      exact ⟨k + 1, u, by omega, (run_succ_of_next k hstep).trans hrun, hend⟩

end

/-- Settles O49: a pending answer adds at most one step to the two for each transfer left. -/
theorem ownRunTerminates : Obligations.OwnRunTerminates := by
  intro n s hcfg hst hm hcounted hbelow
  have halone : s.PollsAlone n := ⟨hcfg, hst, hm, hcounted, hbelow⟩
  have hleft : stepsLeft n s ≤ 2 * (n.toNat - s.xfers.toNat) + 1 := Nat.add_le_add_left (Bool.toNat_le s.pending) _
  exact halone.terminates _ hleft

end Sys2Proof.Machine
end

section
/-! PROOFS. The exceptions (spec/60_exceptions.md): the four causes and their codes (R200, R203, R204), the result code of
`st` and `err` (R201), and what each error leaves in the state (R202). -/

namespace Sys2Proof.Machine

/-! ### The causes (R200) -/

section
variable {i : Instr} {ans : Answer} {a : Chan} {s t : State}

/-- An answer that is no frame is received by COMPLETE alone: a row of format `RSP` carries 4 bytes (R75). -/
theorem eq_complete_of_receivesAnswer (hi : ReceivesAnswer i ans) (hans : ∀ f : Frame, ans ≠ .ok f.bytes) :
    i = .complete ans := by
  obtain hi | ⟨f, hf, -⟩ := hi
  · exact hi
  · exact absurd hf (hans f)

/-- A step that changes `st` is the host's, or the COMPLETE of a pending transfer: ISSUE leaves `st` alone (R153). -/
theorem exec_st_changed (h : exec i s = .next t) (hst : t.st ≠ s.st) :
    (i = .reset ∧ t = resetBlock s) ∨ (∃ a, i = .start a ∧ t = startInvocation a s) ∨
    ∃ ans, ReceivesAnswer i ans ∧ s.pending = true ∧ t = completeEffect ans s := by
  obtain rfl | ⟨a, rfl⟩ | hi | ⟨ans, hi⟩ := instr_kinds i
  · exact .inl ⟨rfl, exec_reset_next.mp h⟩
  · exact .inr (.inl ⟨a, rfl, exec_start_next.mp h⟩)
  · exact absurd (by simp [exec_issuesTransfer_next hi h]) hst
  · exact .inr (.inr ⟨ans, hi, completeStep_next.mp (exec_receivesAnswer hi s ▸ h)⟩)

/-- START fails on a refused address alone, with `ADDRESS` (R151). -/
theorem startInvocation_failed (hs : s.st ≠ .failed) (ht : (startInvocation a s).st = .failed) :
    admits s.cfg.addrPolicy a = false ∧ (startInvocation a s).err = .address := by
  obtain ⟨-, h⟩ | ⟨-, -, h⟩ | ⟨-, hrefused, h⟩ := startInvocation_cases a s
  · exact absurd (h ▸ ht) hs
  · simp [h] at ht
  · exact ⟨hrefused, by simp [h]⟩

/-- START never times out: it is ignored, polls or fails. -/
theorem startInvocation_st_ne_timedOut (a : Chan) (hs : s.st ≠ .timedOut) : (startInvocation a s).st ≠ .timedOut := by
  obtain ⟨-, h⟩ | ⟨-, -, h⟩ | ⟨-, -, h⟩ := startInvocation_cases a s
  · rwa [h]
  · simp [h]
  · simp [h]

/-- A recorded response never fails the invocation (R203). -/
theorem stateAfter_ne_failed (eoc : Bool) (hs : s.st ≠ .failed) : stateAfter eoc s ≠ .failed := by
  obtain ⟨-, h⟩ | ⟨-, -, h⟩ | ⟨-, -, h⟩ := stateAfter_cases eoc s
  · simp [h]
  · simp [h]
  · rwa [h]

/-- A recorded response times out only where it is busy and the bound is reached (R158). -/
theorem stateAfter_eq_timedOut {eoc : Bool} (hs : s.st ≠ .timedOut) (h : stateAfter eoc s = .timedOut) :
    eoc = true ∧ boundReached s.cfg.maxTransfers s.xfers = true := by
  obtain ⟨-, hst⟩ | ⟨heoc, hbound, -⟩ | ⟨-, -, hst⟩ := stateAfter_cases eoc s
  · simp [hst] at h
  · exact ⟨heoc, hbound⟩
  · exact absurd (hst ▸ h) hs

/-- The answers that fail the invocation: an I/O error, and bytes that are no frame (R154, R155). -/
theorem completeEffect_failed (hs : s.st ≠ .failed) (ht : (completeEffect ans s).st = .failed) :
    (ans = .ioError ∧ (completeEffect ans s).err = .deviceIo) ∨
    ∃ bytes, ans = .ok bytes ∧ bytes.length ≠ 4 ∧ (completeEffect ans s).err = .framing := by
  obtain ⟨hans, h⟩ | ⟨bytes, hans, hlen, h⟩ | ⟨rx, -, h⟩ := completeEffect_cases ans s
  · exact .inl ⟨hans, by simp [h]⟩
  · exact .inr ⟨bytes, hans, hlen, by simp [h]⟩
  · rw [h, enterState_st] at ht
    exact absurd ht (stateAfter_ne_failed _ hs)

/-- The one answer that times out is a busy frame at the bound, and it is recorded (R158). -/
theorem completeEffect_timedOut (hs : s.st ≠ .timedOut) (ht : (completeEffect ans s).st = .timedOut) :
    ∃ rx : Frame, ans = .ok rx.bytes ∧ rx.eocBit = true ∧ boundReached s.cfg.maxTransfers s.xfers = true ∧
      completeEffect ans s = enterState .timedOut (recordSample rx s) := by
  obtain ⟨-, h⟩ | ⟨_, -, -, h⟩ | ⟨rx, hans, h⟩ := completeEffect_cases ans s
  · simp [h] at ht
  · simp [h] at ht
  · have hst : stateAfter (decodeSample rx).eoc s = .timedOut := by simpa [h] using ht
    obtain ⟨heoc, hbound⟩ := stateAfter_eq_timedOut hs hst
    exact ⟨rx, hans, heoc, hbound, hst ▸ h⟩

/-- The three ways into FAILED. -/
theorem exec_enters_failed (h : exec i s = .next t) (hs : s.st ≠ .failed) (ht : t.st = .failed) :
    (∃ a, i = .start a ∧ 8 ≤ a.toNat ∧ s.cfg.addrPolicy = .reject ∧ t.err = .address) ∨
    (i = .complete .ioError ∧ s.pending = true ∧ t.err = .deviceIo) ∨
    (∃ bytes, i = .complete (.ok bytes) ∧ bytes.length ≠ 4 ∧ s.pending = true ∧ t.err = .framing) := by
  obtain ⟨-, rfl⟩ | ⟨a, hi, rfl⟩ | ⟨ans, hi, hp, rfl⟩ := exec_st_changed h (ht ▸ hs.symm)
  · simp at ht
  · obtain ⟨hrefused, herr⟩ := startInvocation_failed hs ht
    obtain ⟨hpolicy, hhigh⟩ := admit_eq_false.mp hrefused
    exact .inl ⟨a, hi, hhigh, hpolicy, herr⟩
  · obtain ⟨rfl, herr⟩ | ⟨bytes, rfl, hlen, herr⟩ := completeEffect_failed hs ht
    · exact .inr (.inl ⟨eq_complete_of_receivesAnswer hi (by simp), hp, herr⟩)
    · refine .inr (.inr ⟨bytes, eq_complete_of_receivesAnswer hi ?_, hlen, hp, herr⟩)
      intro f hf
      exact hlen (Answer.ok.inj hf ▸ f.length_bytes)

/-- The one way into TIMED_OUT: a busy frame answers a pending transfer at the bound. -/
theorem exec_enters_timedOut (h : exec i s = .next t) (hs : s.st ≠ .timedOut) (ht : t.st = .timedOut) :
    ∃ rx : Frame, ReceivesAnswer i (.ok rx.bytes) ∧ s.pending = true ∧ rx.eocBit = true ∧
      boundReached s.cfg.maxTransfers s.xfers = true ∧ t = enterState .timedOut (recordSample rx s) := by
  obtain ⟨-, rfl⟩ | ⟨a, -, rfl⟩ | ⟨ans, hi, hp, rfl⟩ := exec_st_changed h (ht ▸ hs.symm)
  · simp at ht
  · exact absurd ht (startInvocation_st_ne_timedOut a hs)
  · obtain ⟨rx, rfl, heoc, hbound, heffect⟩ := completeEffect_timedOut hs ht
    exact ⟨rx, hi, hp, heoc, hbound, heffect⟩

end

/-- Settles O43: the ways into the two states, and a recorded frame is `last_rx` and leaves `err` alone. -/
theorem errorCauses : Obligations.ErrorCauses := by
  refine fun i s t h => ⟨exec_enters_failed h, fun hs ht => ?_⟩
  obtain ⟨rx, hi, hp, heoc, hbound, rfl⟩ := exec_enters_timedOut h hs ht
  exact ⟨hp, heoc, rfl, receivesAnswer_frame hi, boundReached_eq_true.mp hbound⟩

/-! ### The records (R202) -/

section
variable {s : State}

theorem zero_word : Frame.zero.word = 0#32 := by decide

/-- Without a response in this invocation the samples are cleared (R28, R29). -/
theorem State.Good.samples_cleared (hgood : s.Good) (hhave : s.smpHave = false) :
    s.smpEoc = false ∧ s.smpSign = false ∧ s.smpRaw = 0#28 ∧ s.smpNorm = 0#14 ∧ s.lastRx.word = 0#32 := by
  obtain ⟨heoc, hsign, hraw, hnorm, hrx⟩ := hgood.coherent.sample_cleared hhave
  exact ⟨heoc, hsign, hraw, hnorm, hrx ▸ zero_word⟩

/-- `ADDRESS` leaves the refused channel and clears the rest: clause (h) of R160. -/
theorem State.Good.address_leaves (hgood : s.Good) (herr : s.err = .address) :
    s.cfg.addrPolicy = .reject ∧ 8 ≤ s.chan.toNat ∧ s.cmd.word = 0#32 ∧ s.xfers = 0#32 ∧ s.smpHave = false := by
  obtain ⟨hpolicy, hhigh⟩ := admit_eq_false.mp (hgood.coherent.address_refused herr)
  obtain ⟨hxfers, hcmd, hhave⟩ := hgood.inv.address_record herr
  exact ⟨hpolicy, hhigh, hcmd ▸ zero_word, hxfers, hhave⟩

/-- TIMED_OUT leaves the counter at the bound and a busy response: clause (e) of R160. -/
theorem State.Good.timedOut_leaves (hgood : s.Good) (hst : s.st = .timedOut) :
    s.cfg.maxTransfers = .bounded s.xfers ∧ s.smpEoc = true ∧ s.lastRx.b0.getLsbD 7 = true := by
  obtain ⟨hhave, heoc, hbound⟩ := hgood.inv.timedOut_sample hst
  have hbusy : s.lastRx.b0.getLsbD 7 = s.smpEoc := congrArg Sample.eoc (hgood.coherent.sample_decoded hhave)
  exact ⟨hbound, heoc, hbusy.trans heoc⟩

end

/-- Settles O44: a reachable state is good, and a good state holds the record of its error. -/
theorem errorRecords : Obligations.ErrorRecords := by
  intro s hreach
  have hgood := hreach.good
  refine ⟨fun herr => ?_, fun herr => ?_, hgood.timedOut_leaves⟩
  · obtain ⟨hpolicy, hhigh, hcmd, hxfers, hhave⟩ := hgood.address_leaves herr
    exact ⟨hpolicy, hhigh, hcmd, hxfers, hhave, hgood.samples_cleared hhave⟩
  · obtain ⟨hcmd, -, hcounted⟩ := hgood.coherent.transfer_error_record herr
    exact ⟨hcmd, hcounted, hgood.coherent.sample_decoded, hgood.samples_cleared⟩

/-! ### The result code (R201) -/

theorem codeOfResult_le (r : ResultCode) : (codeOfResult r).toNat ≤ 5 := by
  cases r <;> decide

/-- The rows of R201's table: the result code of each pair of `st` and `err` that it lists. -/
theorem resultCode_rows :
    (resultCode .idle .none = 0#3 ∧ resultCode .polling .none = 0#3 ∧ resultCode .converged .none = 1#3 ∧
      resultCode .timedOut .none = 2#3) ∧
    resultCode .failed .deviceIo = 3#3 ∧ resultCode .failed .framing = 4#3 ∧ resultCode .failed .address = 5#3 :=
  ⟨⟨rfl, rfl, rfl, rfl⟩, rfl, rfl, rfl⟩

/-- No error is recorded outside FAILED: clause (b) of R160. -/
theorem State.Inv.err_none_of_not_failed {s : State} (hinv : s.Inv) (hst : s.st ≠ .failed) : s.err = .none :=
  by_contra fun hne => hst (hinv.err_iff_failed.mp hne)

/-- Settles O58: clause (b) of R160 leaves only the pairs that the table lists. -/
theorem resultCodes : Obligations.ResultCodes := by
  refine ⟨fun s => ?_, fun s hinv => ?_⟩
  · obtain ⟨-, -, -, hresult, -⟩ := statusReg_fields s
    exact ⟨hresult, codeOfResult_le _⟩
  · obtain ⟨⟨hidle, hpolling, hconverged, htimedOut⟩, hdeviceIo, hframing, haddress⟩ := resultCode_rows
    have herr : s.st ≠ .failed → s.err = .none := hinv.err_none_of_not_failed
    refine ⟨?_, fun hst => ?_, fun hst => ?_, fun hst => ?_⟩
    · rintro (hst | hst)
      · simp [herr, hst, hidle]
      · simp [herr, hst, hpolling]
    · simp [herr, hst, hconverged]
    · simp [herr, hst, htimedOut]
    · obtain he | he | he := hinv.err_of_failed hst
      · exact .inl ⟨he, by rw [hst, he, hdeviceIo]⟩
      · exact .inr (.inl ⟨he, by rw [hst, he, hframing]⟩)
      · exact .inr (.inr ⟨he, by rw [hst, he, haddress]⟩)

end Sys2Proof.Machine
end

section
/-! PROOFS. Reset and hazards (spec/70_reset_and_hazards.md): RESET as its whole next state (R230, R39). -/

namespace Sys2Proof.Machine

section
variable {s : State}

/-- RESET is enabled in every state (R230). -/
theorem exec_reset (s : State) : exec .reset s = .next (resetBlock s) := rfl

/-- The block fields of R39, with the surroundings as they were. -/
theorem resetBlock_eq (s : State) : resetBlock s =
    { st := .idle, err := .none, pending := false, chan := 0#4, cmd := Frame.zero, xfers := 0#32,
      smpHave := false, smpEoc := false, smpSign := false, smpRaw := 0#28, smpNorm := 0#14,
      lastRx := Frame.zero, spiTx := none, cfg := s.cfg, moves := s.moves, draws := s.draws } := rfl

/-- RESET in IDLE changes nothing (R230, corner cases): clause (g) of R160. -/
theorem State.Inv.exec_reset_of_idle (hinv : s.Inv) (hst : s.st = .idle) : exec .reset s = .next s := by
  rw [exec_reset, ← hinv.idle_reset hst]

end

/-- `State.reset` holds the reset values, and no transfer is in flight there. -/
theorem resetBlock_reset : resetBlock State.reset = { State.reset with spiTx := none } := rfl

/-- Settles O16: RESET answers `resetBlock`, field by field the values of R39. -/
theorem resetSetsEveryField : Obligations.ResetSetsEveryField := by
  intro s
  refine ⟨?_, State.Inv.exec_reset_of_idle, zero_word, ?_⟩
  · rw [exec_reset, resetBlock_eq, Frame.zero]
  · rw [exec_reset, resetBlock_reset]

end Sys2Proof.Machine
end

section
/-! PROOFS. The placing of a table word before a step (spec/42_polling_fsm.md R150; notes/assumptions/8.md): the state that
`prepareFor` leaves carries the frame on its line, so the placed frame is moved. -/

namespace Sys2Proof

/-! ### The offer of a table word -/

section
variable {nbits w : Nat}

/-- A table word is read through its offer. -/
theorem decodeTableWord_eq_some {i : Instr} (h : decodeTableWord nbits w = some i) :
    ∃ o, tableWordOffer nbits w = some o ∧ decode o = .ok i := by
  unfold decodeTableWord at h
  split at h
  · cases h
  · next o ho =>
    split at h
    · next j hj =>
      cases h
      exact ⟨o, ho, hj⟩
    · cases h

/-- A table word is one 4-byte frame on one of the two lines (R56). -/
theorem tableWordOffer_eq_some {o : Offer} (h : tableWordOffer nbits w = some o) :
    ∃ f : Frame, o = .outbound f.bytes ∨ o = .inbound (.ok f.bytes) := by
  unfold tableWordOffer at h
  split at h
  · cases h
  · refine ⟨Frame.ofWord (BitVec.ofNat 32 w), ?_⟩
    dsimp only at h
    split at h
    · exact .inl (Option.some.inj h).symm
    · exact .inr (Option.some.inj h).symm

end

end Sys2Proof

namespace Sys2Proof.Machine

/-! ### The prepared state -/

section
variable (a : Chan) (s : State)

/-- The policy that `beginOn` leaves admits its channel: Truncate admits them all (R104). -/
theorem admits_ite_truncate (p : AddrPolicy) : admits (if admits p a then p else .truncate) a = true := by
  split
  · next hadmit => exact hadmit
  · exact admit_eq_true.mpr (.inl rfl)

/-- `beginOn` is never refused: it leaves an invocation with the frame latched and nothing pending (R151). -/
theorem beginOn_begins :
    (beginOn a s).cmd = commandFrame a ∧ (beginOn a s).st = .polling ∧ (beginOn a s).pending = false := by
  rw [beginOn, startInvocation_of_admitted (by simp) (admits_ite_truncate a s.cfg.addrPolicy)]
  simp

@[simp] theorem beginOn_moves : (beginOn a s).moves = s.moves := by
  simp [beginOn]

/-- ISSUE can send the command frame for which the state is prepared (R61, R153). -/
theorem prepareFor_commandFrame :
    (prepareFor (.outbound (commandFrame a).bytes) s).cmd = commandFrame a ∧
    (prepareFor (.outbound (commandFrame a).bytes) s).st = .polling ∧
    (prepareFor (.outbound (commandFrame a).bytes) s).pending = false := by
  simp only [prepareFor, Frame.ofBytes_bytes, commandFrame_channel]
  split
  · next hready =>
    obtain ⟨henabled, hcmd⟩ := Bool.and_eq_true_iff.mp hready
    exact ⟨eq_of_beq hcmd, (issueEnabled_iff s).mp henabled⟩
  · exact beginOn_begins a s

/-- A transfer is pending where a response is to come in (R63). -/
theorem prepareFor_inbound_pending (ans : Answer) : (prepareFor (.inbound ans) s).pending = true := by
  simp only [prepareFor]
  split
  · next hp => exact hp
  · exact issueEffect_pending _

@[simp] theorem prepareFor_moves (o : Offer) : (prepareFor o s).moves = s.moves := by
  unfold prepareFor
  split
  · split
    · rfl
    · split
      · rfl
      · exact beginOn_moves _ s
  · split
    · rfl
    · rw [issueEffect_moves, beginOn_moves]
  · rfl

end

/-! ### The placed frame is moved -/

section
variable {o : Offer} {i : Instr} {f : Frame} (s : State)

/-- What is offered first is what the next step runs. -/
theorem step_offerFirst (hi : decode o = .ok i) : step (offerFirst o s) = exec i s :=
  step_of_offer rfl hi

theorem exec_prepareFor_outbound (hi : decode (.outbound f.bytes) = .ok i) :
    ∃ t, exec i (prepareFor (.outbound f.bytes) s) = .next t := by
  rw [decode_outbound_bytes] at hi
  obtain ⟨a, rfl, hrow⟩ := decodeCommand_ok hi
  obtain ⟨hcmd, hst, hp⟩ := prepareFor_commandFrame a s
  rw [exec_commandRow (hrow.imp And.right And.right)]
  exact ⟨_, sendFrame_next.mpr ⟨hcmd, hst, hp, rfl⟩⟩

theorem exec_prepareFor_inbound (hi : decode (.inbound (.ok f.bytes)) = .ok i) :
    ∃ t, exec i (prepareFor (.inbound (.ok f.bytes)) s) = .next t := by
  rw [decode_inbound_bytes] at hi
  obtain rfl := Except.ok.inj hi
  obtain ⟨ans, hcomplete⟩ := exec_decodeResponse f (prepareFor (.inbound (.ok f.bytes)) s)
  rw [hcomplete]
  exact ⟨_, completeStep_next.mpr ⟨prepareFor_inbound_pending s _, rfl⟩⟩

theorem withFetchWord_of_offer {nbits w : Nat} (ho : tableWordOffer nbits w = some o) :
    s.withFetchWord nbits w = offerFirst o (prepareFor o s) := by
  simp [State.withFetchWord, ho]

end

/-- Settles O53: the prepared state keeps the offered moves, and the frame's line carries it there. -/
theorem placedWordRunsNext : Obligations.PlacedWordRunsNext := by
  intro s nbits w i h
  obtain ⟨o, ho, hi⟩ := decodeTableWord_eq_some h
  have hruns : ∃ t, exec i (prepareFor o s) = .next t := by
    obtain ⟨f, rfl | rfl⟩ := tableWordOffer_eq_some ho
    · exact exec_prepareFor_outbound s hi
    · exact exec_prepareFor_inbound s hi
  obtain ⟨t, ht⟩ := hruns
  refine ⟨prepareFor o s, t, prepareFor_moves s o, ?_, ht⟩
  rw [withFetchWord_of_offer s ho, step_offerFirst _ hi]

end Sys2Proof.Machine
end
